-- ==== Sys2Proof/Word.lean ====
section
/-! DEFINITION. The machine's plain words: a byte on a line or in a store, and a 32-bit value (R208). -/

namespace Sys2Proof

/-- One byte of any layout seen outside the part (R208). -/
abbrev Byte := BitVec 8

/-- A 32-bit value: a meter identifier, a route identifier, a CRC-32 (R7, R28, R209). -/
abbrev Word := BitVec 32

end Sys2Proof
end

