-- ==== Sys2Proof/Syntax.lean ====
section
/-! DEFINITION. The commands of the block: one constructor for each row of spec/opcode_table.json, with what each
carries across the part's boundary. -/

namespace Sys2Proof

/-- One byte received on an asynchronous line, with the line-fault mark of a stop bit received low (R49, R153, R207). -/
structure RxByte where
  val   : Byte
  fault : Bool
deriving DecidableEq, Repr

/-- A command transaction after its code byte (R186, R187). -/
structure Tx where
  /-- the whole bytes clocked after the code byte: the length byte, then the argument bytes -/
  rest       : List Byte
  /-- the transaction ended with a partial byte -/
  partialEnd : Bool
  /-- CS_N fell while the port was not taking transactions, or RESET_N fell during the transaction (R186) -/
  dropped    : Bool
deriving DecidableEq, Repr

/-- The commands and events of the part, one for each row of spec/opcode_table.json. -/
inductive Instr where
  -- start, reset line and supply (chapter 11)
  | powerOn
  | autoloadEnd
  | resetNFall
  | resetNRise
  -- timebase (chapters 2, 7, 8, 9, 11)
  | tenth
  | routeSecond
  | segmentDeadlineExpiry (segment : Nat)
  | segmentPulseEnd
  -- air path (chapters 3 to 5)
  | channelWordArrival (ch : Fin 4) (bytes : List RxByte)
  | take
  | evaluationStart
  | evaluationCompletion
  -- dock link (chapter 8)
  | dockPresentRise
  | dockPresentFall
  | livenessExpiry
  | syncIntervalExpiry
  | frameSend
  | erroredFrame (line : List RxByte)
  | unusableFrame (typ : Byte) (payload : List Byte)
  | sync
  -- depot messages to Route Control (chapter 2)
  | routeOpen (payload : List Byte)
  | routeRecord (payload : List Byte)
  | routeSeal
  | routeAbort
  | closeRoute
  -- depot messages to the Upload Engine (chapter 9) and the link check (chapter 8)
  | uploadRequest
  | uploadStop
  | blockAck (payload : List Byte)
  | checkStart
  | checkPattern (payload : List Byte)
  | checkEnd
  -- the Upload Engine's own events (chapter 9)
  | blockExpiry (block : Byte)
  | assembly
  | endOfPass
  -- Command Port (chapter 10)
  | response (clocked : Nat) (dropped : Bool)
  | unknownCommand (code : Byte) (tx : Tx)
  | status (tx : Tx)
  | readCauses (tx : Tx)
  | reset (tx : Tx)
  -- Meter Roster (chapter 1)
  | lookup (tx : Tx)
  | readSlot (tx : Tx)
  | readNext (tx : Tx)
  | insert (tx : Tx)
  | amend (tx : Tx)
  | retire (tx : Tx)
  | reevaluate (tx : Tx)
  | profileWrite (tx : Tx)
  | profileRead (tx : Tx)
  -- Route Life Cycle (chapter 2)
  | loadOpen (tx : Tx)
  | loadRecord (tx : Tx)
  | loadSeal (tx : Tx)
  | rejectRead (tx : Tx)
  | routeBegin (tx : Tx)
  | routeClose (tx : Tx)
  | routeDiscard (tx : Tx)
  -- Air Frame Intake (chapter 3)
  | channelStats (tx : Tx)
  -- Tamper Flags and Review (chapter 6)
  | flagRead (tx : Tx)
  | review (tx : Tx)
  | reviewHead (tx : Tx)
  -- Segments, Match Windows and Revisits (chapter 7)
  | segmentRead (tx : Tx)
  | windowStage (tx : Tx)
  | windowDepth (tx : Tx)
  | windowRead (tx : Tx)
  | windowApply (tx : Tx)
  | revisitRead (tx : Tx)
  | waive (tx : Tx)
  -- Settings Store and indicator lines (chapter 11)
  | settingsWrite (tx : Tx)
  | settingsCommit (tx : Tx)
  | settingsCommitCompletion
  | indicatorSet (tx : Tx)
  -- late rows of the table
  | wordEndGap (ch : Fin 4)
  | supplyFailure
deriving DecidableEq, Repr

end Sys2Proof
end

