-- ==== Sys2Proof/Decode.lean ====
section
/-! DEFINITION. The reading of a word by the opcode table's bits. No row of spec/opcode_table.json gives bits: a command of
this block is a transaction, a dock message or an event, and not a word (log entry 20). -/

namespace Sys2Proof

/-- The command a word spells by the bits of the opcode table. The table gives bits to no row, so no word spells one. -/
def decodeTableWord (_nbits _w : Nat) : Option Instr := none

end Sys2Proof
end

