-- ==== Sys2Proof/Config.lean ====
section
/-! DEFINITION. What is fixed for every VC-2260 (capacities, ranges) and the one free value of the model. -/

namespace Sys2Proof.Config

/-- Record slots in the roster (R1). -/
def slotCount : Nat := 8192
/-- Ways of one Meter Index bucket (R7, R8). -/
def wayCount : Nat := 8
/-- Segments of a route (R122). -/
def segmentCount : Nat := 1024
/-- Words one channel FIFO holds (R55). -/
def fifoDepth : Nat := 8
/-- Entries the Reject List holds (R34). -/
def rejectListMax : Nat := 64
/-- Entries the Outstanding Table holds (R174). -/
def outstandingMax : Nat := 4
/-- Records one upload block holds (R172). -/
def blockMax : Nat := 16
/-- Top of a saturating 16-bit counter (R28, R59, R151, R167). -/
def countTop : Nat := 65535
/-- Top of the route clock (R41). -/
def clockTop : Nat := 16777215
/-- The tenths of a restarted segment pulse (R200). -/
def pulseTenths : Nat := 5
/-- The fill byte of MISO (12.4). -/
def fillByte : Byte := 0xFF#8
/-- The start delimiter of a dock frame (12.3). -/
def delimiter : Byte := 0x7E#8

/-- FREE VALUE (log entry 7). One tenth can both bring the liveness count to 2 and bring a block's tenths to 0. R183
allows the expiry and the lock loss in either order and the two orders differ in the timeout count; no rule chooses.
At the n-th such tenth the block expiries come first exactly when this is true. -/
opaque blocksFirst : Nat → Bool

end Sys2Proof.Config
end

