-- ==== Sys2Proof/Machine/State.lean ====
section
/-! DEFINITION. The state of the part, block by block, as plain data. The default value of a field is its power-on value. -/

namespace Sys2Proof.Machine

/-! ## Four like things -/

/-- One value for each of four like things: channels 0 to 3 (R48), lines IND0 to IND3 (R199). -/
structure Quad (α : Type) where
  q0 : α
  q1 : α
  q2 : α
  q3 : α
deriving DecidableEq, Repr

/-- The same value in all four places. -/
def Quad.all {α : Type} (a : α) : Quad α := ⟨a, a, a, a⟩

/-- The value at place `i`. -/
def Quad.get {α : Type} (q : Quad α) (i : Fin 4) : α :=
  match i with
  | 0 => q.q0
  | 1 => q.q1
  | 2 => q.q2
  | 3 => q.q3

/-- The four values with place `i` replaced. -/
def Quad.set {α : Type} (q : Quad α) (i : Fin 4) (a : α) : Quad α :=
  match i with
  | 0 => { q with q0 := a }
  | 1 => { q with q1 := a }
  | 2 => { q with q2 := a }
  | 3 => { q with q3 := a }

/-- `f` applied at every place. -/
def Quad.map {α β : Type} (f : α → β) (q : Quad α) : Quad β := ⟨f q.q0, f q.q1, f q.q2, f q.q3⟩

/-! ## The Meter Roster (chapter 1) -/

/-- Meter kinds (R2, Table 12-1). -/
inductive Kind where
  | electric | gas | water | heat
deriving DecidableEq, Repr

/-- Record states (R3). -/
inductive RecState where
  | expected | read | flagged | reviewed | notRead
deriving DecidableEq, Repr

/-- Eval states (R88). -/
inductive EvalState where
  | none | queued | running | done
deriving DecidableEq, Repr

/-- Classes of an evaluation (R98). -/
inductive Class where
  | normal | low | high | reverse
deriving DecidableEq, Repr

/-- A reading with all of its parts (R2). -/
structure Reading where
  value   : Nat
  seq     : BitVec 8
  tRead   : Nat
  channel : Fin 4
deriving DecidableEq, Repr

/-- A signal with both of its parts (R2, R81). -/
structure Signal where
  best     : Nat
  smoothed : Nat
deriving DecidableEq, Repr

/-- A result with all of its parts (R2, R102). -/
structure Result where
  delta    : Nat
  rollover : Bool
  rate     : Nat
  cls      : Class
  causes   : BitVec 10
  score    : Nat
deriving DecidableEq, Repr

/-- The upload state of a record; only a carried record has a superseded mark (R5). -/
inductive UploadMark where
  | idle
  | carried (block : BitVec 8) (superseded : Bool)
deriving DecidableEq, Repr

/-- A meter record (R2, Table 1-1). -/
structure Record where
  meterId        : Word
  kind           : Kind
  profile        : Nat
  segment        : Nat
  baseline       : Nat
  baselineAge    : Nat
  bandLow        : Nat
  bandHigh       : Nat
  state          : RecState := .expected
  reading        : Option Reading := none
  latched        : BitVec 7 := 0#7
  hearCount      : Nat := 0
  signal         : Option Signal := none
  generation     : BitVec 8 := 0#8
  eval           : EvalState := .none
  result         : Option Result := none
  reviewedCauses : Option (BitVec 10) := none
  upload         : UploadMark := .idle
deriving DecidableEq, Repr

/-- The record slots and the Meter Index (R1, R7). Both are sparse tables with keys strictly rising: `slots` lists the
occupied slots; `index` lists the occupied ways, way `w` of bucket `b` under the key `8 * b + w`, with their slot numbers. -/
structure Roster where
  slots : List (Nat × Record) := []
  index : List (Nat × Nat) := []
deriving DecidableEq, Repr

/-- A profile (R11); the default is the default profile. `weights` stand in the order LOW, HIGH, REVERSE, ROLLOVER,
MAGNET, COVER, BACKFLOW, RESTART, IDENT, CONFLICT. -/
structure Profile where
  digits    : Nat := 6
  threshold : Nat := 0
  smoothing : Nat := 7
  weights   : List Nat := [0, 0, 0, 0, 0, 0, 0, 0, 0, 0]
deriving DecidableEq, Repr

/-! ## Route Control (chapter 2) -/

/-- Statuses of responses, LOAD STATUS and Reject List reasons, in the order of their codes (Table 12-2). -/
inductive Status where
  | ok | endOfList | none | busy | badLength | unknownCommand | notFound | wrongRouteState
  | notOwner | notEmpty | inFlight | lockedField | notFlagged | notMissed | noReading | uploadBusy
  | badId | badProfile | badSegment | badBaseline | badBand | duplicateId | rosterFull | bucketFull
deriving DecidableEq, Repr

/-- Route states (R28, Table 2-1). -/
inductive RouteState where
  | empty | loading | ready | loadFault | active | closed
deriving DecidableEq, Repr

/-- Load owners (R28). -/
inductive Owner where
  | none | commandPort | dock
deriving DecidableEq, Repr

/-- A Reject List entry (R34). -/
structure Reject where
  arrival : Nat
  meterId : Word
  reason  : Status
deriving DecidableEq, Repr

/-- Route Control's state with its power-on values (R28); `routeId`, `count` and `check` are the manifest. -/
structure Route where
  state      : RouteState := .empty
  owner      : Owner := .none
  routeId    : Word := 0#32
  count      : Nat := 0
  check      : Word := 0#32
  received   : Nat := 0
  rejects    : Nat := 0
  running    : Word := 0xFFFFFFFF#32
  rejectList : List Reject := []
  clock      : Nat := 0
deriving DecidableEq, Repr

/-! ## Air Intake (chapter 3) -/

/-- Receive states of a channel (R48). -/
inductive RxState where
  | gapWait | assembling
deriving DecidableEq, Repr

/-- The word in assembly (R48, R49): `count` holds at 15; `bytes` are the first 14 bytes. -/
structure Assembling where
  count : Nat := 0
  fault : Bool := false
  bytes : List Byte := []
deriving DecidableEq, Repr

/-- The thirteen statistics counters of a channel (R59), in the order of Table 3-3. -/
inductive Counter where
  | framesIn | crcFail | formatError | overrun | routeInactive | unknown | kindMismatch
  | invalidReading | badReading | stale | repeats | conflict | accepted
deriving DecidableEq, Repr

/-- The values of the thirteen counters (R59, R63). -/
structure Stats where
  framesIn       : Nat := 0
  crcFail        : Nat := 0
  formatError    : Nat := 0
  overrun        : Nat := 0
  routeInactive  : Nat := 0
  unknown        : Nat := 0
  kindMismatch   : Nat := 0
  invalidReading : Nat := 0
  badReading     : Nat := 0
  stale          : Nat := 0
  repeats        : Nat := 0
  conflict       : Nat := 0
  accepted       : Nat := 0
deriving DecidableEq, Repr

/-- One channel (R48); its enable is the live channel-enable setting and is held in `Settings`. -/
structure Channel where
  rx    : RxState := .gapWait
  word  : Assembling := {}
  fifo  : List (List Byte) := []
  stats : Stats := {}
deriving DecidableEq, Repr

/-! ## Evaluation Unit (chapter 5) -/

/-- The snapshot of an evaluation (R91, Table 5-2). -/
structure Snapshot where
  generation  : BitVec 8
  value       : Nat
  tRead       : Nat
  baseline    : Nat
  baselineAge : Nat
  bandLow     : Nat
  bandHigh    : Nat
  digits      : Nat
  threshold   : Nat
  weights     : List Nat
  latched     : BitVec 7
deriving DecidableEq, Repr

/-- The running computation (R87). -/
structure Computation where
  slot     : Nat
  snap     : Snapshot
  departed : Bool
deriving DecidableEq, Repr

/-- The Evaluation Unit (R87): it is RUNNING exactly while it holds a running computation. -/
structure EvalUnit where
  running : Option Computation := none
  queue   : List Nat := []
deriving DecidableEq, Repr

/-! ## Segment Tracker (chapter 7) -/

/-- Segment states (R122). -/
inductive SegState where
  | vacant | pending | active | trailing | missed | waived | complete | closed
deriving DecidableEq, Repr

/-- A Segment Table entry (R122, Table 7-1); the default is the entry of the empty form. -/
structure SegEntry where
  state    : SegState := .vacant
  members  : Nat := 0
  read     : Nat := 0
  flagged  : Nat := 0
  visited  : Bool := false
  deadline : Option Nat := none
deriving DecidableEq, Repr

/-- One set of match-window values (R131). -/
structure Windows where
  startA : Nat := 0
  startB : Nat := 0
  depth  : Nat := 0
  split  : Nat := 0
deriving DecidableEq, Repr

/-- The Segment Tracker (R122, R131, R142). `table` is sparse with keys strictly rising and lists no entry equal to the
empty one. -/
structure Segments where
  table   : List (Nat × SegEntry) := []
  staged  : Windows := {}
  applied : Windows := {}
  revisit : List Nat := []
deriving DecidableEq, Repr

/-! ## Dock Link Controller (chapter 8) -/

/-- Link states (R151). -/
inductive LinkState where
  | detached | acquiring | locked | checking
deriving DecidableEq, Repr

/-- The receiver (R151, R153). -/
inductive Receiver where
  | hunt
  | inFrame (bytes : List Byte) (fault : Bool)
deriving DecidableEq, Repr

/-- The held check result (R164). -/
inductive CheckResult where
  | none | pass | fail
deriving DecidableEq, Repr

/-- A dock frame built for sending (R159): its type and its payload. -/
structure Frame where
  typ     : Byte
  payload : List Byte
deriving DecidableEq, Repr

/-- The Dock Link Controller (R151, Table 8-1). -/
structure Link where
  state    : LinkState := .detached
  syncRun  : Nat := 0
  liveness : Nat := 0
  receiver : Receiver := .hunt
  txQueue  : List Frame := []
  sending  : Option Frame := none
  held     : CheckResult := .none
  errors   : Nat := 0
  patterns : Nat := 0
deriving DecidableEq, Repr

/-! ## Upload Engine (chapter 9) -/

/-- Upload Engine states (R167). -/
inductive UploadState where
  | idle | passing | draining
deriving DecidableEq, Repr

/-- An Outstanding Table entry (R167). -/
structure Outstanding where
  block  : BitVec 8
  slots  : List Nat
  tenths : Nat
deriving DecidableEq, Repr

/-- The Upload Engine (R167, Table 9-1); `cursor` is `none` for "past the end". -/
structure Upload where
  state     : UploadState := .idle
  cursor    : Option Nat := some 0
  nextBlock : BitVec 8 := 0#8
  table     : List Outstanding := []
  sent      : Nat := 0
  retired   : Nat := 0
  returned  : Nat := 0
  timeouts  : Nat := 0
  strays    : Nat := 0
  ignored   : Nat := 0
deriving DecidableEq, Repr

/-! ## Command Port (chapter 10) -/

/-- A held response (R188). -/
structure Response where
  status : Status
  data   : List Byte
deriving DecidableEq, Repr

/-- Reset causes (Table 10-1). -/
inductive ResetCause where
  | powerOn | resetLine | resetCommand
deriving DecidableEq, Repr

/-- The Command Port (Table 10-1). `buffer` is `none` for EMPTY, `cursor` is `none` for "before slot 0". `miso` is the
model's own record of the whole bytes MISO carried in the last transaction taken (log entry 13). -/
structure Port where
  buffer     : Option Response := none
  cursor     : Option Nat := none
  causes     : BitVec 8 := 0#8
  resetCause : ResetCause := .powerOn
  miso       : List Byte := []
deriving DecidableEq, Repr

/-! ## Settings Store, lines and start-up (chapter 11) -/

/-- Indicator sources, in the order of their codes (Table 11-2, Table 12-1). -/
inductive Source where
  | off | on | flagsWaiting | revisitWaiting | routeActive | dockLocked | checkFail | attnMirror | segmentPulse
deriving DecidableEq, Repr

/-- The live settings with their defaults (R198, Table 11-1). -/
structure Settings where
  unit     : Word := 0#32
  mask     : BitVec 8 := 0xFF#8
  sources  : Quad Source := Quad.all .off
  grace    : Nat := 15
  timeout  : Nat := 20
  enables  : Quad Bool := Quad.all true
  profiles : Vector Profile 16 := Vector.replicate 16 {}
deriving DecidableEq, Repr

/-- The copy a commit in progress writes, with the check computed over it (R204). -/
structure CommitCopy where
  copy  : Settings
  check : Nat
deriving DecidableEq, Repr

/-- The nonvolatile array (R202): its 256 bytes, or part-written by a supply failure during a commit (R204, log entry 9). -/
inductive Image where
  | whole (bytes : List Byte)
  | partWritten
deriving DecidableEq, Repr

/-- The image of a part that was never committed: DESIGN CHOICE all 0xFF (log entry 3, unsafe). R202 says such an array
fails its check. -/
def Image.blank : Image := .whole (List.replicate 256 0xFF#8)

/-- The Settings Store (R198, R202, R204, R205); `commit` is `none` for the commit state IDLE. -/
structure Store where
  live      : Settings := {}
  defaulted : Bool := false
  commit    : Option CommitCopy := none
  image     : Image := Image.blank
deriving DecidableEq, Repr

/-- Without supply, from power-on to the end of the autoload, or started (R204, R205). -/
inductive Power where
  | off | autoload | running
deriving DecidableEq, Repr

/-- The indicator lines' own state: the pulse count (R200) and the release of a RESET command until the next tenth (R199). -/
structure Lines where
  pulse   : Nat := 0
  indWait : Bool := false
deriving DecidableEq, Repr

/-- The whole part. `resetLow` and `dockPresent` are the levels of RESET_N and DOCK_PRESENT. `draws` counts the draws of
the free order of log entry 7. `pending` is the queue of the commands that wait, first in, first out. -/
structure State where
  power       : Power := .autoload
  resetLow    : Bool := false
  dockPresent : Bool := false
  roster      : Roster := {}
  route       : Route := {}
  channels    : Quad Channel := Quad.all {}
  rotation    : Fin 4 := 3
  eval        : EvalUnit := {}
  chain       : List Nat := []
  seg         : Segments := {}
  link        : Link := {}
  upload      : Upload := {}
  port        : Port := {}
  store       : Store := {}
  lines       : Lines := {}
  draws       : Nat := 0
  pending     : List Instr := []
deriving DecidableEq, Repr

/-- The part right after the POWER_ON event, with the autoload in progress, RESET_N high, no dock mated and a blank
image (log entries 2, 3, 4). -/
def State.reset : State := {}

/-- Why the machine stops with a fault. Both are stuck states: they arise only in a state that breaks a law the spec
says always holds, so no run reaches them (log entry 17, safe). -/
inductive Fault where
  /-- Raised by EVALUATION_START when the slot at the head of the Evaluation Queue holds no record with a reading, against
  R87 and R91. Safe: the model stops where the spec gives no effect. -/
  | queueHeadUnfit
  /-- Raised by FLAG_READ and REVIEW_HEAD when the chain entry they reach names a free slot, against R107. Safe: the model
  stops where the spec gives no effect. -/
  | chainEntryFree
deriving DecidableEq, Repr

/-- Why the machine refuses a command. -/
inductive Refusal where
  /-- Raised by an arm of `exec` that has no meaning yet, with the row's mnemonic. Safe. -/
  | notModelled (mnemonic : String)
deriving DecidableEq, Repr

/-- What a command's meaning answers. -/
abbrev Answer := Host.Outcome State Fault Refusal

end Sys2Proof.Machine
end

