-- ==== Sys2Proof/Machine/Bytes.lean ====
section
/-! DEFINITION. Byte order and bit numbering (R208), the two CRCs (R209), and the sparse tables in which the roster,
the Meter Index and the Segment Table are held. -/

namespace Sys2Proof.Machine

/-! ## Byte order (R208): most significant byte first -/

/-- The unsigned value of a field whose most significant byte comes first. -/
def beNat (bs : List Byte) : Nat := bs.foldl (fun a b => a * 256 + b.toNat) 0

/-- The low `width` bytes of `n`, most significant first. -/
def beBytes : Nat → Nat → List Byte
  | 0, _ => []
  | width + 1, n => BitVec.ofNat 8 (n / 256 ^ width) :: beBytes width n

/-- The value of the field of `len` bytes at offset `off`. -/
def fieldAt (bs : List Byte) (off len : Nat) : Nat := beNat ((bs.drop off).take len)

/-- The byte at offset `off`. -/
def byteAt (bs : List Byte) (off : Nat) : Byte := bs.getD off 0#8

/-- The bits `hi` to `lo` of a byte as a number. -/
def bitsOf (b : Byte) (hi lo : Nat) : Nat := (b.toNat / 2 ^ lo) % 2 ^ (hi + 1 - lo)

/-- A bit as a number, for building a byte. -/
def bitIf (c : Bool) (i : Nat) : Nat := if c then 2 ^ i else 0

/-! ## Saturating counts (4.1 of 00_scope.md) -/

/-- One more, holding at the top of a saturating counter. -/
def satInc (top n : Nat) : Nat := if n < top then n + 1 else top

/-! ## CRC-16 of the air frame (R54, R209) -/

/-- One data bit of the CRC-16: shift left, and fold the polynomial in when the bit shifted out differs from the data bit. -/
def crc16Bit (reg : BitVec 16) (bit : Bool) : BitVec 16 :=
  let shifted := reg <<< 1
  if reg.getLsbD 15 != bit then shifted ^^^ 0x1021#16 else shifted

/-- One byte of the CRC-16, most significant bit first. -/
def crc16Byte (reg : BitVec 16) (b : Byte) : BitVec 16 :=
  [7, 6, 5, 4, 3, 2, 1, 0].foldl (fun r i => crc16Bit r (b.getLsbD i)) reg

/-- The CRC-16 over the bytes, started at 0xFFFF and not inverted. -/
def crc16 (bs : List Byte) : BitVec 16 := bs.foldl crc16Byte 0xFFFF#16

/-! ## CRC-32 of the dock frame and of the route check (R209) -/

/-- One data bit of the CRC-32: shift right, and fold the reflected polynomial in when the bit shifted out differs from
the data bit. -/
def crc32Bit (reg : BitVec 32) (bit : Bool) : BitVec 32 :=
  let shifted := reg >>> 1
  if reg.getLsbD 0 != bit then shifted ^^^ 0xEDB88320#32 else shifted

/-- One byte of the CRC-32, least significant bit first. -/
def crc32Byte (reg : BitVec 32) (b : Byte) : BitVec 32 :=
  [0, 1, 2, 3, 4, 5, 6, 7].foldl (fun r i => crc32Bit r (b.getLsbD i)) reg

/-- The CRC-32 register run on over the bytes, not yet inverted (R32). -/
def crc32Fold (reg : BitVec 32) (bs : List Byte) : BitVec 32 := bs.foldl crc32Byte reg

/-- The CRC-32 over the bytes, started at all ones and inverted at the end. -/
def crc32 (bs : List Byte) : BitVec 32 := ~~~ (crc32Fold 0xFFFFFFFF#32 bs)

/-! ## Sparse tables: lists of keys and values with keys strictly rising -/

/-- The value under key `k`, if the table lists one. -/
def tableGet {α : Type} : List (Nat × α) → Nat → Option α
  | [], _ => none
  | (j, v) :: t, k => if j = k then some v else tableGet t k

/-- The table with `v` under key `k`, put in its place. -/
def tablePut {α : Type} : List (Nat × α) → Nat → α → List (Nat × α)
  | [], k, v => [(k, v)]
  | (j, w) :: t, k, v =>
    if k < j then (k, v) :: (j, w) :: t
    else if k = j then (k, v) :: t
    else (j, w) :: tablePut t k v

/-- The table without key `k`. -/
def tableDel {α : Type} (m : List (Nat × α)) (k : Nat) : List (Nat × α) := m.filter (fun e => e.1 != k)

/-- The keys are strictly rising: the canonical form of a sparse table. -/
def tableRising {α : Type} : List (Nat × α) → Bool
  | [] => true
  | [_] => true
  | (j, _) :: (k, w) :: t => decide (j < k) && tableRising ((k, w) :: t)

/-- The lowest key at or above `n` that a table with rising keys does not list, where `n` starts at 0. -/
def firstGap {α : Type} : Nat → List (Nat × α) → Nat
  | n, [] => n
  | n, (k, _) :: t => if k = n then firstGap (n + 1) t else n

end Sys2Proof.Machine
end

