-- ==== Sys2Proof/Machine/Codes.lean ====
section
/-! DEFINITION. The codes of Tables 12-1 and 12-2, of the commands (Table 10-3) and of the dock messages (Table 12-5), all
of R208 and the rules that own them. -/

namespace Sys2Proof.Machine

/-! ## Codes of Table 12-1 -/

/-- The code of a kind. -/
def Kind.code : Kind → Nat
  | .electric => 0 | .gas => 1 | .water => 2 | .heat => 3

/-- The kind a two-bit code names (R71). -/
def kindOfCode (n : Nat) : Kind :=
  match n with
  | 0 => .electric
  | 1 => .gas
  | 2 => .water
  | _ => .heat

/-- The code of a record state. -/
def RecState.code : RecState → Nat
  | .expected => 0 | .read => 1 | .flagged => 2 | .reviewed => 3 | .notRead => 4

/-- The code of a class. -/
def Class.code : Class → Nat
  | .normal => 0 | .low => 1 | .high => 2 | .reverse => 3

/-- The code of an eval state. -/
def EvalState.code : EvalState → Nat
  | .none => 0 | .queued => 1 | .running => 2 | .done => 3

/-- The code of a route state. -/
def RouteState.code : RouteState → Nat
  | .empty => 0 | .loading => 1 | .ready => 2 | .loadFault => 3 | .active => 4 | .closed => 5

/-- The code of a load owner. -/
def Owner.code : Owner → Nat
  | .none => 0 | .commandPort => 1 | .dock => 2

/-- The code of a segment state. -/
def SegState.code : SegState → Nat
  | .vacant => 0 | .pending => 1 | .active => 2 | .trailing => 3
  | .missed => 4 | .waived => 5 | .complete => 6 | .closed => 7

/-- The code of a link state. -/
def LinkState.code : LinkState → Nat
  | .detached => 0 | .acquiring => 1 | .locked => 2 | .checking => 3

/-- The code of a held check result. -/
def CheckResult.code : CheckResult → Nat
  | .none => 0 | .pass => 1 | .fail => 2

/-- The code of an Upload Engine state. -/
def UploadState.code : UploadState → Nat
  | .idle => 0 | .passing => 1 | .draining => 2

/-- The code of a reset cause. -/
def ResetCause.code : ResetCause → Nat
  | .powerOn => 0 | .resetLine => 1 | .resetCommand => 2

/-- The code of an indicator source. -/
def Source.code : Source → Nat
  | .off => 0 | .on => 1 | .flagsWaiting => 2 | .revisitWaiting => 3 | .routeActive => 4
  | .dockLocked => 5 | .checkFail => 6 | .attnMirror => 7 | .segmentPulse => 8

/-- The source a code names; a code that names none of the nine is taken as OFF (R203, R208). -/
def sourceOfCode (n : Nat) : Source :=
  match n with
  | 1 => .on
  | 2 => .flagsWaiting
  | 3 => .revisitWaiting
  | 4 => .routeActive
  | 5 => .dockLocked
  | 6 => .checkFail
  | 7 => .attnMirror
  | 8 => .segmentPulse
  | _ => .off

/-- CHECK RESULT verdicts. -/
def verdictPass : Nat := 0
/-- CHECK RESULT verdict FAIL. -/
def verdictFail : Nat := 1
/-- CHECK RESULT verdict REFUSED. -/
def verdictRefused : Nat := 2
/-- The BLOCK ACK verdict ACCEPT; every other value is handled as REFUSE (R176). -/
def verdictAccept : Byte := 1#8

/-! ## Latched set, bits 0 to 6 -/

/-- MAGNET in the latched set. -/
def latchMagnet : BitVec 7 := 0x01#7
/-- COVER in the latched set. -/
def latchCover : BitVec 7 := 0x02#7
/-- BACKFLOW in the latched set. -/
def latchBackflow : BitVec 7 := 0x04#7
/-- LOW_BATTERY in the latched set. -/
def latchLowBattery : BitVec 7 := 0x08#7
/-- RESTART in the latched set. -/
def latchRestart : BitVec 7 := 0x10#7
/-- IDENT in the latched set. -/
def latchIdent : BitVec 7 := 0x20#7
/-- CONFLICT in the latched set. -/
def latchConflict : BitVec 7 := 0x40#7

/-! ## Cause set, bits 0 to 9 -/

/-- LOW in a cause set. -/
def causeLow : BitVec 10 := 0x001#10
/-- HIGH in a cause set. -/
def causeHigh : BitVec 10 := 0x002#10
/-- REVERSE in a cause set. -/
def causeReverse : BitVec 10 := 0x004#10
/-- ROLLOVER in a cause set. -/
def causeRollover : BitVec 10 := 0x008#10
/-- MAGNET in a cause set. -/
def causeMagnet : BitVec 10 := 0x010#10
/-- COVER in a cause set. -/
def causeCover : BitVec 10 := 0x020#10
/-- BACKFLOW in a cause set. -/
def causeBackflow : BitVec 10 := 0x040#10
/-- RESTART in a cause set. -/
def causeRestart : BitVec 10 := 0x080#10
/-- IDENT in a cause set. -/
def causeIdent : BitVec 10 := 0x100#10
/-- CONFLICT in a cause set. -/
def causeConflict : BitVec 10 := 0x200#10

/-! ## Attention causes, bits 0 to 7 (Table 10-5) -/

/-- FLAG_ADDED (R117). -/
def attFlagAdded : BitVec 8 := 0x01#8
/-- SEGMENT_COMPLETE (R146). -/
def attSegmentComplete : BitVec 8 := 0x02#8
/-- SEGMENT_MISSED (R146). -/
def attSegmentMissed : BitVec 8 := 0x04#8
/-- INTAKE_OVERRUN (R57). -/
def attIntakeOverrun : BitVec 8 := 0x08#8
/-- LOAD_DONE (R36). -/
def attLoadDone : BitVec 8 := 0x10#8
/-- DOCK_CHANGE (R152, R156, R157). -/
def attDockChange : BitVec 8 := 0x20#8
/-- UPLOAD_DONE (R179). -/
def attUploadDone : BitVec 8 := 0x40#8
/-- CHECK_DONE (R163). -/
def attCheckDone : BitVec 8 := 0x80#8

/-! ## Status codes (Table 12-2) -/

/-- The code of a status. -/
def Status.code : Status → Nat
  | .ok => 0x00 | .endOfList => 0x01 | .none => 0x02 | .busy => 0x03
  | .badLength => 0x04 | .unknownCommand => 0x05 | .notFound => 0x06 | .wrongRouteState => 0x07
  | .notOwner => 0x08 | .notEmpty => 0x09 | .inFlight => 0x0A | .lockedField => 0x0B
  | .notFlagged => 0x0C | .notMissed => 0x0D | .noReading => 0x0E | .uploadBusy => 0x0F
  | .badId => 0x10 | .badProfile => 0x11 | .badSegment => 0x12 | .badBaseline => 0x13
  | .badBand => 0x14 | .duplicateId => 0x15 | .rosterFull => 0x16 | .bucketFull => 0x17

/-! ## Dock message types (Table 12-5) -/

/-- SYNC from the depot. -/
def typSync : Byte := 0x10#8
/-- ROUTE OPEN. -/
def typRouteOpen : Byte := 0x11#8
/-- ROUTE RECORD. -/
def typRouteRecord : Byte := 0x12#8
/-- ROUTE SEAL. -/
def typRouteSeal : Byte := 0x13#8
/-- ROUTE ABORT. -/
def typRouteAbort : Byte := 0x14#8
/-- CLOSE ROUTE. -/
def typCloseRoute : Byte := 0x15#8
/-- UPLOAD REQUEST. -/
def typUploadRequest : Byte := 0x16#8
/-- UPLOAD STOP. -/
def typUploadStop : Byte := 0x17#8
/-- BLOCK ACK. -/
def typBlockAck : Byte := 0x18#8
/-- CHECK START. -/
def typCheckStart : Byte := 0x19#8
/-- CHECK PATTERN. -/
def typCheckPattern : Byte := 0x1A#8
/-- CHECK END. -/
def typCheckEnd : Byte := 0x1B#8
/-- SYNC from the part. -/
def typPartSync : Byte := 0x90#8
/-- UNIT STATUS. -/
def typUnitStatus : Byte := 0x91#8
/-- LOAD STATUS. -/
def typLoadStatus : Byte := 0x92#8
/-- UPLOAD BLOCK. -/
def typUploadBlock : Byte := 0x93#8
/-- UPLOAD END. -/
def typUploadEnd : Byte := 0x94#8
/-- CHECK RESULT. -/
def typCheckResult : Byte := 0x95#8

/-- The payload length of a depot-to-part message, by its type; none for a type that names no such message (Table 8-3). -/
def messageLength (typ : Byte) : Option Nat :=
  if typ = typRouteOpen then some 10
  else if typ = typRouteRecord then some 17
  else if typ = typBlockAck then some 2
  else if typ = typCheckPattern then some 64
  else if typ = typSync ∨ typ = typRouteSeal ∨ typ = typRouteAbort ∨ typ = typCloseRoute ∨ typ = typUploadRequest
      ∨ typ = typUploadStop ∨ typ = typCheckStart ∨ typ = typCheckEnd then some 0
  else none

/-- A valid frame of this type and payload length is a message; otherwise it is unusable (R154). -/
def isMessage (typ : Byte) (payload : List Byte) : Bool := messageLength typ == some payload.length

/-! ## Command codes -/

/-- The code of RESPONSE, which is no command (R189). -/
def codeResponse : Byte := 0xF0#8

/-- The argument length a command code requires; none for a code that names no command (R187, Table 10-3 and the rule of
each command). -/
def commandLength (code : Byte) : Option Nat :=
  match code.toNat with
  | 0x01 => some 0   -- STATUS (R191)
  | 0x02 => some 0   -- READ CAUSES (R194)
  | 0x0E => some 0   -- RESET (R195)
  | 0x10 => some 10  -- LOAD OPEN (R30)
  | 0x11 => some 17  -- LOAD RECORD (R32)
  | 0x12 => some 0   -- LOAD SEAL (R36)
  | 0x13 => some 1   -- REJECT READ (R35)
  | 0x14 => some 0   -- ROUTE BEGIN (R39)
  | 0x15 => some 0   -- ROUTE CLOSE (R42)
  | 0x16 => some 0   -- ROUTE DISCARD (R44)
  | 0x20 => some 4   -- LOOKUP (R20)
  | 0x21 => some 2   -- READ SLOT (R21)
  | 0x22 => some 0   -- READ NEXT (R22)
  | 0x23 => some 17  -- INSERT (R23)
  | 0x24 => some 20  -- AMEND (R24)
  | 0x25 => some 6   -- RETIRE (R26)
  | 0x26 => some 6   -- REEVALUATE (R27)
  | 0x28 => some 14  -- PROFILE WRITE (R12)
  | 0x29 => some 1   -- PROFILE READ (R13)
  | 0x30 => some 2   -- CHANNEL STATS (R61)
  | 0x40 => some 2   -- FLAG READ (R116)
  | 0x41 => some 6   -- REVIEW (R113)
  | 0x42 => some 0   -- REVIEW HEAD (R114)
  | 0x50 => some 2   -- SEGMENT READ (R145)
  | 0x51 => some 3   -- WINDOW STAGE (R133)
  | 0x52 => some 2   -- WINDOW DEPTH (R134)
  | 0x53 => some 1   -- WINDOW READ (R135)
  | 0x54 => some 0   -- WINDOW APPLY (R136)
  | 0x55 => some 2   -- REVISIT READ (R143)
  | 0x56 => some 2   -- WAIVE (R144)
  | 0x60 => some 13  -- SETTINGS WRITE (R203)
  | 0x61 => some 0   -- SETTINGS COMMIT (R204)
  | 0x62 => some 2   -- INDICATOR SET (R201)
  | _ => none

end Sys2Proof.Machine
end

