-- ==== Sys2Proof/Machine/Flags.lean ====
section
/-! DEFINITION. The pins the part drives, as functions of the state: ATTN_N (R193), RX_EN0 to RX_EN3 (R50, R51) and IND0
to IND3 (R199); and the raising of an attention cause (R192). -/

namespace Sys2Proof.Machine

/-- The part has ended its autoload and is not held by RESET_N (R205, R206): the Command Port takes transactions, the
channel inputs are listened to, and evaluations, takes and route seconds go on. -/
def State.awake (s : State) : Bool := decide (s.power = .running) && !s.resetLow

/-- ATTN_N is driven low: the pending set and the cause mask have a cause in common; it is released until the autoload
ends and while RESET_N is held low (R193). -/
def State.attnLow (s : State) : Bool := s.awake && ((s.port.causes &&& s.store.live.mask) != 0#8)

/-- RX_EN of a channel is driven high (R50, R51). -/
def State.rxEnable (s : State) (ch : Fin 4) : Bool := s.awake && s.store.live.enables.get ch

/-- The condition of an indicator source (Table 11-2). -/
def State.sourceTrue (s : State) (src : Source) : Bool :=
  match src with
  | .off => false
  | .on => true
  | .flagsWaiting => !s.chain.isEmpty
  | .revisitWaiting => !s.seg.revisit.isEmpty
  | .routeActive => decide (s.route.state = .active)
  | .dockLocked => decide (s.link.state = .locked) || decide (s.link.state = .checking)
  | .checkFail => decide (s.link.held = .fail)
  | .attnMirror => s.attnLow
  | .segmentPulse => decide (0 < s.lines.pulse)

/-- What an IND line does at its pin. -/
inductive Level where
  | high | low | released
deriving DecidableEq, Repr

/-- The level of an IND line: released until the autoload ends, while RESET_N is held low, and from a RESET command until
the next tenth; otherwise high while its source is true (R199). -/
def State.indLevel (s : State) (line : Fin 4) : Level :=
  if !s.awake || s.lines.indWait then .released
  else if s.sourceTrue (s.store.live.sources.get line) then .high
  else .low

/-- A cause is raised into the pending set, whatever the mask holds (R192). -/
def raise (cause : BitVec 8) (s : State) : State := { s with port.causes := s.port.causes ||| cause }

end Sys2Proof.Machine
end

