-- ==== Sys2Proof/Machine/Operands.lean ====
section
/-! DEFINITION. The layouts of what the part receives and sends (R208, chapter 12): record images, the air frame, profiles
and settings as bytes, the record view, the upload image, segment entries, dock frames. -/

namespace Sys2Proof.Machine

/-! ## Load record image (Table 12-3) -/

/-- The fields of a load record image. -/
structure LoadImage where
  meterId     : Word
  kind        : Kind
  profile     : Nat
  segment     : Nat
  baseline    : Nat
  baselineAge : Nat
  bandLow     : Nat
  bandHigh    : Nat
deriving DecidableEq, Repr

/-- The image read from its 17 bytes. -/
def loadImageOf (bs : List Byte) : LoadImage :=
  { meterId := BitVec.ofNat 32 (fieldAt bs 0 4)
    kind := kindOfCode (bitsOf (byteAt bs 4) 7 6)
    profile := bitsOf (byteAt bs 4) 5 0
    segment := fieldAt bs 5 2
    baseline := fieldAt bs 7 4
    baselineAge := fieldAt bs 11 2
    bandLow := fieldAt bs 13 2
    bandHigh := fieldAt bs 15 2 }

/-- The record a passing candidate becomes (R15): its input fields, and every other field as Table 1-1 gives for creation. -/
def LoadImage.newRecord (im : LoadImage) : Record :=
  { meterId := im.meterId
    kind := im.kind
    profile := im.profile
    segment := im.segment
    baseline := im.baseline
    baselineAge := im.baselineAge
    bandLow := im.bandLow
    bandHigh := im.bandHigh }

/-! ## The channel word (12.1) -/

/-- The fields of a channel word. -/
structure AirWord where
  kind    : Kind
  meterId : Word
  seq     : BitVec 8
  value   : Nat
  status  : Byte
  rssi    : Nat
deriving DecidableEq, Repr

/-- The fields read from the 14 bytes of a channel word. -/
def airWordOf (bs : List Byte) : AirWord :=
  { kind := kindOfCode (bitsOf (byteAt bs 0) 3 2)
    meterId := BitVec.ofNat 32 (fieldAt bs 1 4)
    seq := byteAt bs 5
    value := fieldAt bs 6 4
    status := byteAt bs 10
    rssi := (byteAt bs 13).toNat }

/-- READING_INVALID of a status byte. -/
def AirWord.invalid (w : AirWord) : Bool := w.status.getLsbD 4

/-- The four indications of a status byte as a latched set: status bits 0 to 3 and latched bits 0 to 3 name the same
four (R72, Table 12-1). -/
def AirWord.indications (w : AirWord) : BitVec 7 := BitVec.ofNat 7 (bitsOf w.status 3 0)

/-! ## Profiles and settings as bytes (12.5) -/

/-- The modulus of a digit count (R11, R93). -/
def modulusOf (digits : Nat) : Nat := 10 ^ digits

/-- The profile read from 13 bytes (digits, T, k, ten weights), digits and k brought into range (R12, R205). -/
def profileOf (bs : List Byte) : Profile :=
  { digits := max 4 (min 9 (byteAt bs 0).toNat)
    threshold := (byteAt bs 1).toNat
    smoothing := min 31 (byteAt bs 2).toNat
    weights := (List.range 10).map (fun i => (byteAt bs (3 + i)).toNat) }

/-- The 13 bytes of a profile. -/
def Profile.bytes (p : Profile) : List Byte :=
  [BitVec.ofNat 8 p.digits, BitVec.ofNat 8 p.threshold, BitVec.ofNat 8 p.smoothing]
    ++ (List.range 10).map (fun i => BitVec.ofNat 8 (p.weights.getD i 0))

/-- The profile of a number in the live table. -/
def Settings.profileAt (t : Settings) (n : Nat) : Profile := (t.profiles[n]?).getD {}

/-- The four channel enables from a byte: only the bits for channels 0 to 3 are kept (R203). -/
def enablesOf (b : Byte) : Quad Bool := ⟨b.getLsbD 0, b.getLsbD 1, b.getLsbD 2, b.getLsbD 3⟩

/-- The byte of the channel enables. -/
def enablesByte (e : Quad Bool) : Byte := BitVec.ofNat 8 (bitIf e.q0 0 + bitIf e.q1 1 + bitIf e.q2 2 + bitIf e.q3 3)

/-- The four indicator sources from four bytes. -/
def sourcesOf (bs : List Byte) : Quad Source :=
  ⟨sourceOfCode (byteAt bs 0).toNat, sourceOfCode (byteAt bs 1).toNat,
   sourceOfCode (byteAt bs 2).toNat, sourceOfCode (byteAt bs 3).toNat⟩

/-- The four source codes. -/
def sourceBytes (q : Quad Source) : List Byte :=
  [BitVec.ofNat 8 q.q0.code, BitVec.ofNat 8 q.q1.code, BitVec.ofNat 8 q.q2.code, BitVec.ofNat 8 q.q3.code]

/-- The grace brought into range (R203). -/
def graceOf (b : Byte) : Nat := min 127 b.toNat

/-- The acknowledgement timeout brought into range (R203). -/
def timeoutOf (b : Byte) : Nat := max 1 (min 127 b.toNat)

/-- The 12 settings bytes, in the order of R202. -/
def Settings.bytes (t : Settings) : List Byte :=
  beBytes 4 t.unit.toNat ++ [t.mask] ++ sourceBytes t.sources
    ++ [BitVec.ofNat 8 t.grace, BitVec.ofNat 8 t.timeout, enablesByte t.enables]

/-- The settings with the groups selected by bits 0 to 5 of `sel` written from 12 settings bytes, each value brought into
range (R203). -/
def Settings.write (t : Settings) (sel : Byte) (bs : List Byte) : Settings :=
  { t with
    unit := if sel.getLsbD 0 then BitVec.ofNat 32 (fieldAt bs 0 4) else t.unit
    mask := if sel.getLsbD 1 then byteAt bs 4 else t.mask
    sources := if sel.getLsbD 2 then sourcesOf (bs.drop 5) else t.sources
    grace := if sel.getLsbD 3 then graceOf (byteAt bs 9) else t.grace
    timeout := if sel.getLsbD 4 then timeoutOf (byteAt bs 10) else t.timeout
    enables := if sel.getLsbD 5 then enablesOf (byteAt bs 11) else t.enables }

/-- Bytes 0 to 253 of the settings image of a copy: settings, profiles, fill and spare bytes of 0 (R202, R204, 12.5). -/
def Settings.imageBody (t : Settings) : List Byte :=
  t.bytes ++ t.profiles.toList.flatMap Profile.bytes ++ List.replicate 34 0#8

/-- The check over bytes 0 to 253: their sum modulo 65536, exclusive-or 0xFFFF (R202). -/
def imageCheck (body : List Byte) : Nat := ((body.foldl (fun a b => a + b.toNat) 0) % 65536) ^^^ 0xFFFF

/-- The image passes its check (R202); a part-written one does not (R204). -/
def Image.passes (im : Image) : Bool :=
  match im with
  | .partWritten => false
  | .whole bs => fieldAt bs 254 2 == imageCheck (bs.take 254)

/-- The live settings an image gives, its values brought into range (R205). -/
def settingsOf (bs : List Byte) : Settings :=
  { ({} : Settings).write 0x3F#8 bs with
    profiles := Vector.ofFn (fun i : Fin 16 => profileOf ((bs.drop (12 + 13 * i.val)).take 13)) }

/-! ## What the part sends: record images and views (12.2) -/

/-- The upload record image of a record as it stands (R173, Table 12-4). -/
def Record.image (r : Record) : List Byte :=
  beBytes 4 r.meterId.toNat
  ++ [BitVec.ofNat 8 (r.kind.code * 64 + r.state.code * 8 + bitIf (r.state = .flagged) 2)]
  ++ [BitVec.ofNat 8 (bitIf r.reading.isSome 7 + bitIf r.signal.isSome 6 + bitIf r.result.isSome 5
        + ((r.reading.map (fun x => x.channel.val)).getD 0) * 8
        + bitIf ((r.result.map (fun x => x.rollover)).getD false) 2
        + (r.result.map (fun x => x.cls.code)).getD 0)]
  ++ beBytes 4 ((r.reading.map (fun x => x.value)).getD 0)
  ++ beBytes 1 ((r.reading.map (fun x => x.seq.toNat)).getD 0)
  ++ beBytes 3 ((r.reading.map (fun x => x.tRead)).getD 0)
  ++ beBytes 1 r.latched.toNat
  ++ beBytes 1 r.hearCount
  ++ beBytes 1 ((r.signal.map (fun x => x.best)).getD 0)
  ++ beBytes 1 ((r.signal.map (fun x => x.smoothed)).getD 0)
  ++ beBytes 4 ((r.result.map (fun x => x.delta)).getD 0)
  ++ beBytes 2 ((r.result.map (fun x => x.rate)).getD 0)
  ++ beBytes 2 ((r.result.map (fun x => x.causes.toNat)).getD 0)
  ++ beBytes 1 ((r.result.map (fun x => x.score)).getD 0)
  ++ [r.generation]

/-- The record is CARRIED (R5). -/
def UploadMark.isCarried : UploadMark → Bool
  | .idle => false
  | .carried _ _ => true

/-- The superseded mark (R5). -/
def UploadMark.isSuperseded : UploadMark → Bool
  | .idle => false
  | .carried _ sup => sup

/-- The block number of a carried record, and 0 for an IDLE one (R19). -/
def UploadMark.blockCode : UploadMark → BitVec 8
  | .idle => 0#8
  | .carried n _ => n

/-- The 47 bytes of the record view (R19, 12.2). -/
def Record.view (r : Record) (slot : Nat) : List Byte :=
  beBytes 2 slot ++ r.image
  ++ beBytes 1 r.profile ++ beBytes 2 r.segment ++ beBytes 4 r.baseline ++ beBytes 2 r.baselineAge
  ++ beBytes 2 r.bandLow ++ beBytes 2 r.bandHigh
  ++ [BitVec.ofNat 8 (r.eval.code + bitIf r.reviewedCauses.isSome 2 + bitIf r.upload.isCarried 3
        + bitIf r.upload.isSuperseded 4)]
  ++ [r.upload.blockCode]
  ++ beBytes 2 ((r.reviewedCauses.map (fun c => c.toNat)).getD 0)

/-- The code of a slot number field: 0xFFFF for "none" or "past the end" (R208). -/
def slotCode (n : Option Nat) : Nat := n.getD 0xFFFF

/-- The 14 bytes of a segment entry (R145, Table 12-6). -/
def SegEntry.view (e : SegEntry) (n : Nat) (covered : Bool) : List Byte :=
  beBytes 2 n ++ beBytes 1 e.state.code ++ beBytes 2 e.members ++ beBytes 2 e.read ++ beBytes 2 e.flagged
  ++ [BitVec.ofNat 8 (bitIf e.visited 0 + bitIf covered 1 + bitIf e.deadline.isSome 2)]
  ++ beBytes 4 (e.deadline.getD 0)

/-- The thirteen counters in the order of Table 3-3, 2 bytes each. -/
def Stats.bytes (c : Stats) : List Byte :=
  beBytes 2 c.framesIn ++ beBytes 2 c.crcFail ++ beBytes 2 c.formatError ++ beBytes 2 c.overrun
  ++ beBytes 2 c.routeInactive ++ beBytes 2 c.unknown ++ beBytes 2 c.kindMismatch ++ beBytes 2 c.invalidReading
  ++ beBytes 2 c.badReading ++ beBytes 2 c.stale ++ beBytes 2 c.repeats ++ beBytes 2 c.conflict ++ beBytes 2 c.accepted

/-- The staged window values as WINDOW STAGE and WINDOW DEPTH answer them (Table 12-6). -/
def Windows.bytes (w : Windows) : List Byte :=
  beBytes 2 w.startA ++ beBytes 2 w.startB ++ beBytes 1 w.depth ++ beBytes 1 w.split

/-! ## Dock frames (12.3) -/

/-- The type, length and payload bytes of a frame: what its CRC-32 covers. -/
def Frame.body (f : Frame) : List Byte := f.typ :: (beBytes 2 f.payload.length ++ f.payload)

/-- The bytes of a frame on the line (R159, R208, R209): delimiter, type, length, payload, CRC-32. -/
def Frame.lineBytes (f : Frame) : List Byte :=
  Config.delimiter :: (f.body ++ beBytes 4 (crc32 f.body).toNat)

/-- The check pattern: byte n is n exclusive-or 0xA5 (R162). -/
def checkPatternBytes : List Byte := (List.range 64).map (fun n => BitVec.ofNat 8 n ^^^ 0xA5#8)

end Sys2Proof.Machine
end

