-- ==== Sys2Proof/Machine/Ops.lean ====
section
/-! DEFINITION. The named operations the meanings share: over the roster and its index, the Evaluation Queue, the Segment
Tracker, the route, the transmit queue, the outstanding blocks, the response buffer, and the warm reset. -/

namespace Sys2Proof.Machine

/-! ## Roster and Meter Index (chapter 1) -/

/-- The record in a slot, if the slot is occupied (R1). -/
def State.recordAt (s : State) (slot : Nat) : Option Record := tableGet s.roster.slots slot

/-- The roster count (R1). -/
def State.rosterCount (s : State) : Nat := s.roster.slots.length

/-- A slot's record is written. -/
def setRecord (slot : Nat) (r : Record) (s : State) : State :=
  { s with roster.slots := tablePut s.roster.slots slot r }

/-- The bucket of a meter identifier (R7). -/
def bucketOf (id : Word) : Nat := ((id ^^^ (id >>> 11) ^^^ (id >>> 22)) &&& 0x7FF#32).toNat

/-- The key of a way of a bucket in the index's sparse table. -/
def wayKey (bucket way : Nat) : Nat := Config.wayCount * bucket + way

/-- The lowest-numbered empty way of a bucket (R8). -/
def freeWay (index : List (Nat × Nat)) (bucket : Nat) : Option Nat :=
  (List.range Config.wayCount).find? (fun w => (tableGet index (wayKey bucket w)).isNone)

/-- The slot in a way, when the way is occupied and its slot's record has the identifier. -/
def State.wayMatch (s : State) (id : Word) (way : Nat) : Option Nat :=
  match tableGet s.roster.index (wayKey (bucketOf id) way) with
  | none => none
  | some slot =>
    match s.recordAt slot with
    | none => none
    | some r => if r.meterId = id then some slot else none

/-- The lookup of a meter identifier: the first way of its bucket that matches (R9). -/
def State.lookup (s : State) (id : Word) : Option Nat := (List.range Config.wayCount).findSome? (s.wayMatch id)

/-- The tests of a candidate in their order; none when it passes (R14). -/
def validate (s : State) (im : LoadImage) : Option Status :=
  if im.meterId = 0#32 ∨ im.meterId = 0xFFFFFFFF#32 then some .badId
  else if 15 < im.profile then some .badProfile
  else if 1023 < im.segment then some .badSegment
  else if modulusOf (s.store.live.profileAt im.profile).digits ≤ im.baseline ∨ 4095 < im.baselineAge then some .badBaseline
  else if im.bandHigh < im.bandLow then some .badBand
  else if (s.lookup im.meterId).isSome then some .duplicateId
  else if Config.slotCount ≤ s.rosterCount then some .rosterFull
  else if (freeWay s.roster.index (bucketOf im.meterId)).isNone then some .bucketFull
  else none

/-- The record named by a slot number together with a meter_id (R18). -/
def State.named (s : State) (slot : Nat) (id : Word) : Option Record :=
  if slot < Config.slotCount then
    match s.recordAt slot with
    | none => none
    | some r => if r.meterId = id then some r else none
  else none

/-- The generation is bumped: 255 is followed by 0 (R4). -/
def Record.bump (r : Record) : Record := { r with generation := r.generation + 1#8 }

/-- A carried record's superseded mark is set (R5); an IDLE record carries none. -/
def Record.supersede (r : Record) : Record :=
  match r.upload with
  | .idle => r
  | .carried n _ => { r with upload := .carried n true }

/-- The record returns to IDLE with its mark cleared (R5). -/
def Record.release (r : Record) : Record := { r with upload := .idle }

/-! ## Evaluation requests (R89) -/

/-- An evaluation request for the record of a slot (R89). -/
def requestEval (slot : Nat) (s : State) : State :=
  match s.recordAt slot with
  | none => s
  | some r =>
    if r.eval = .queued then s
    else { setRecord slot { r with eval := .queued } s with eval.queue := s.eval.queue ++ [slot] }

/-- The unit's part of a departure: the slot leaves the queue, and a running computation of that slot is marked (R90). -/
def departEval (slot : Nat) (e : EvalUnit) : EvalUnit :=
  { running := e.running.map (fun c => if c.slot = slot then { c with departed := true } else c)
    queue := e.queue.filter (· != slot) }

/-- The unit's part of a roster clear (R90). -/
def clearEval (e : EvalUnit) : EvalUnit :=
  { running := e.running.map (fun c => { c with departed := true }), queue := [] }

/-! ## Segment Tracker (chapter 7) -/

/-- The entry of a segment; one the sparse table does not list is the empty one (R122). -/
def State.segAt (s : State) (n : Nat) : SegEntry := (tableGet s.seg.table n).getD {}

/-- A segment's entry is written; the empty one is not listed. -/
def putSeg (table : List (Nat × SegEntry)) (n : Nat) (e : SegEntry) : List (Nat × SegEntry) :=
  if e = {} then tableDel table n else tablePut table n e

/-- A segment's entry is written. -/
def setSeg (n : Nat) (e : SegEntry) (s : State) : State := { s with seg.table := putSeg s.seg.table n e }

/-- Every entry is changed by `f`, which leaves the empty entry empty. -/
def mapSegs (f : Nat → SegEntry → SegEntry) (table : List (Nat × SegEntry)) : List (Nat × SegEntry) :=
  (table.map (fun e => (e.1, f e.1 e.2))).filter (fun e => e.2 != {})

/-- A segment is in the covered set of window values (R132). -/
def Windows.covers (w : Windows) (n : Nat) : Bool :=
  decide (n < Config.segmentCount)
    && ((decide (w.startA ≤ n) && decide (n < w.startA + min w.split w.depth))
      || (decide (w.startB ≤ n) && decide (n < w.startB + (w.depth - w.split))))

/-- The size of the covered set (R132). -/
def Windows.coveredCount (w : Windows) : Nat := ((List.range Config.segmentCount).filter w.covers).length

/-- The segment leaves the Revisit List, if it stands there (R142). -/
def leaveRevisit (n : Nat) (s : State) : State := { s with seg.revisit := s.seg.revisit.filter (· != n) }

/-- The states from which a segment can complete (R125). -/
def SegState.owes : SegState → Bool
  | .pending | .active | .trailing | .missed | .waived => true
  | .vacant | .complete | .closed => false

/-- A segment completes: deadline discarded, off the Revisit List, SEGMENT_COMPLETE raised, pulse restarted (R125, R146, R200). -/
def completeSeg (n : Nat) (s : State) : State :=
  let s := setSeg n { s.segAt n with state := .complete, deadline := none } (leaveRevisit n s)
  raise attSegmentComplete { s with lines.pulse := Config.pulseTenths }

/-- A segment becomes VACANT: deadline discarded, off the Revisit List (R126). -/
def vacateSeg (n : Nat) (s : State) : State :=
  setSeg n { s.segAt n with state := .vacant, deadline := none } (leaveRevisit n s)

/-- A segment becomes MISSED: deadline discarded, appended to the Revisit List, SEGMENT_MISSED raised (R142, R146). -/
def missSeg (n : Nat) (s : State) : State :=
  let s := setSeg n { s.segAt n with state := .missed, deadline := none } s
  raise attSegmentMissed { s with seg.revisit := s.seg.revisit ++ [n] }

/-- A segment becomes ACTIVE: deadline discarded, off the Revisit List (R137). -/
def activateSeg (n : Nat) (s : State) : State :=
  setSeg n { s.segAt n with state := .active, deadline := none } (leaveRevisit n s)

/-- The segment completes when its unread count is 0 with members above 0 and it owes readings (R125). -/
def completeIfRead (n : Nat) (s : State) : State :=
  let e := s.segAt n
  if 0 < e.members ∧ e.members - e.read = 0 ∧ e.state.owes = true then completeSeg n s else s

/-- The settling of a VACANT or COMPLETE segment that gained an unread member, by the order of R124 (R127). -/
def settleByOrder (n : Nat) (s : State) : State :=
  let e := s.segAt n
  if e.members = 0 then setSeg n { e with state := .vacant } s
  else if e.members - e.read = 0 then setSeg n { e with state := .complete } s
  else if s.seg.applied.covers n then setSeg n { e with state := .active } s
  else if !e.visited then setSeg n { e with state := .pending } s
  else missSeg n s

/-- A record comes to name the segment: the counts (R123, R128, R130) and the settling (R127, R129). -/
def segGain (n : Nat) (r : Record) (s : State) : State :=
  let e := s.segAt n
  let e' : SegEntry :=
    { e with
      members := e.members + 1
      read := if r.state = .expected then e.read else e.read + 1
      flagged := if r.state = .flagged then e.flagged + 1 else e.flagged }
  let s := setSeg n e' s
  if r.state = .expected then
    match e.state with
    | .vacant | .complete => settleByOrder n s
    | .pending | .active | .trailing | .missed | .waived | .closed => s
  else if e.state = .vacant then setSeg n { e' with state := .complete } s
  else s

/-- A record no longer names the segment: the counts (R123, R129) and the settling (R125, R126); a CLOSED segment stays
CLOSED (R148). -/
def segLose (n : Nat) (r : Record) (s : State) : State :=
  let e := s.segAt n
  let e' : SegEntry :=
    { e with
      members := e.members - 1
      read := if r.state = .expected then e.read else e.read - 1
      flagged := if r.state = .flagged then e.flagged - 1 else e.flagged }
  let s := setSeg n e' s
  if e.state = .closed then s
  else if e'.members = 0 then vacateSeg n s
  else if r.state = .expected then completeIfRead n s
  else s

/-- A member's first accepted reading (R79): the read count rises and the segment is settled. -/
def segRead (n : Nat) (s : State) : State :=
  let e := s.segAt n
  completeIfRead n (setSeg n { e with read := e.read + 1 } s)

/-- A member is flagged (R118). -/
def segFlag (n : Nat) (s : State) : State :=
  let e := s.segAt n
  setSeg n { e with flagged := e.flagged + 1 } s

/-- A member is reviewed (R118). -/
def segUnflag (n : Nat) (s : State) : State :=
  let e := s.segAt n
  setSeg n { e with flagged := e.flagged - 1 } s

/-- A TRAILING segment whose deadline is at or below `clock` expires (R140). -/
def expireSeg (clock : Nat) (n : Nat) (s : State) : State :=
  let e := s.segAt n
  match e.state, e.deadline with
  | .trailing, some d => if d ≤ clock then missSeg n s else s
  | _, _ => s

/-! ## The return to EMPTY, roster clear, retirement and creation -/

/-- At each return of the route to EMPTY the scan cursor of a PASSING engine is moved past the end (R182). -/
def Upload.passOver (u : Upload) : Upload := if u.state = .passing then { u with cursor := none } else u

/-- The route returns to EMPTY: every item of Route Control at its power-on value, the Segment Tracker in the empty form
(R28, R46, R148, R182). -/
def returnToEmpty (s : State) : State := { s with route := {}, seg := {}, upload := s.upload.passOver }

/-- The route is thrown away: the roster clear of R17 with what its owners empty, and the return to EMPTY (R44, R38). -/
def discardRoute (s : State) : State :=
  returnToEmpty { s with roster := {}, eval := clearEval s.eval, chain := [] }

/-- A record is retired (R16); in CLOSED the last retirement returns the route to EMPTY (R46). -/
def retireSlot (slot : Nat) (s : State) : State :=
  match s.recordAt slot with
  | none => s
  | some r =>
    let s :=
      { s with
        roster := { slots := tableDel s.roster.slots slot, index := s.roster.index.filter (fun e => e.2 != slot) }
        chain := s.chain.filter (· != slot)
        eval := departEval slot s.eval }
    let s := segLose r.segment r s
    if s.route.state = .closed ∧ s.roster.slots = [] then returnToEmpty s else s

/-- The slot a new record takes: the lowest-numbered free one (R1, R15). -/
def State.freeSlot (s : State) : Nat := firstGap 0 s.roster.slots

/-- A passing candidate is created in the lowest free slot and the lowest empty way, and counted in its segment (R8, R15). -/
def createRecord (im : LoadImage) (s : State) : State :=
  let slot := s.freeSlot
  let bucket := bucketOf im.meterId
  let way := (freeWay s.roster.index bucket).getD 0
  segGain im.segment im.newRecord
    { s with
      roster := { slots := tablePut s.roster.slots slot im.newRecord,
                  index := tablePut s.roster.index (wayKey bucket way) slot } }

/-! ## Channel counters (R59, R60) -/

/-- A counter is raised, holding at its top (R59). -/
def Stats.raise (c : Stats) (k : Counter) : Stats :=
  match k with
  | .framesIn => { c with framesIn := satInc Config.countTop c.framesIn }
  | .crcFail => { c with crcFail := satInc Config.countTop c.crcFail }
  | .formatError => { c with formatError := satInc Config.countTop c.formatError }
  | .overrun => { c with overrun := satInc Config.countTop c.overrun }
  | .routeInactive => { c with routeInactive := satInc Config.countTop c.routeInactive }
  | .unknown => { c with unknown := satInc Config.countTop c.unknown }
  | .kindMismatch => { c with kindMismatch := satInc Config.countTop c.kindMismatch }
  | .invalidReading => { c with invalidReading := satInc Config.countTop c.invalidReading }
  | .badReading => { c with badReading := satInc Config.countTop c.badReading }
  | .stale => { c with stale := satInc Config.countTop c.stale }
  | .repeats => { c with repeats := satInc Config.countTop c.repeats }
  | .conflict => { c with conflict := satInc Config.countTop c.conflict }
  | .accepted => { c with accepted := satInc Config.countTop c.accepted }

/-- One channel is changed. -/
def onChannel (ch : Fin 4) (f : Channel → Channel) (s : State) : State :=
  { s with channels := s.channels.set ch (f (s.channels.get ch)) }

/-- A counter of a channel is raised (R60). -/
def countOn (ch : Fin 4) (k : Counter) (s : State) : State :=
  onChannel ch (fun c => { c with stats := c.stats.raise k }) s

/-! ## The transmit queue (R159) -/

/-- How many frames of a type may wait at once (R159). -/
def txLimit (typ : Byte) : Nat := if typ = typLoadStatus ∨ typ = typUploadBlock then 4 else 1

/-- A frame offered to the transmit queue joins it unless the frames of its kind already waiting fill their places (R159). -/
def offer (f : Frame) (s : State) : State :=
  if (s.link.txQueue.filter (fun g => g.typ == f.typ)).length < txLimit f.typ then
    { s with link.txQueue := s.link.txQueue ++ [f] }
  else s

/-- The LOAD STATUS frame for a status, as the state stands (R29, Table 12-5). -/
def loadStatusFrame (st : Status) (s : State) : Frame :=
  { typ := typLoadStatus
    payload := beBytes 1 st.code ++ beBytes 1 s.route.state.code ++ beBytes 4 s.route.routeId.toNat
      ++ beBytes 2 s.route.count ++ beBytes 2 s.route.received ++ beBytes 2 s.route.rejects ++ beBytes 2 s.rosterCount }

/-- A LOAD STATUS answers a depot message; it is offered in LOCKED only (R29). -/
def answerDepot (st : Status) (s : State) : State :=
  if s.link.state = .locked then offer (loadStatusFrame st s) s else s

/-- The UNIT STATUS frame (R156, Table 12-5). -/
def unitStatusFrame (s : State) : Frame :=
  { typ := typUnitStatus
    payload := beBytes 4 s.store.live.unit.toNat ++ beBytes 4 s.route.routeId.toNat ++ beBytes 1 s.route.state.code
      ++ beBytes 1 s.route.owner.code ++ beBytes 2 s.route.count ++ beBytes 2 s.route.received ++ beBytes 2 s.route.rejects
      ++ beBytes 2 s.rosterCount ++ beBytes 2 s.chain.length ++ beBytes 1 s.link.held.code ++ beBytes 2 s.link.errors }

/-- A CHECK RESULT frame (R161, R163, Table 12-5). -/
def checkResultFrame (verdict : Nat) (s : State) : Frame :=
  { typ := typCheckResult
    payload := beBytes 1 verdict ++ beBytes 1 s.link.held.code ++ beBytes 2 s.link.errors ++ beBytes 2 s.link.patterns }

/-- The UPLOAD END frame (R179, Table 12-5). -/
def uploadEndFrame (s : State) : Frame :=
  { typ := typUploadEnd
    payload := beBytes 2 s.upload.sent ++ beBytes 2 s.upload.retired ++ beBytes 2 s.upload.returned }

/-- The part's SYNC frame (R160). -/
def partSyncFrame (s : State) : Frame := { typ := typPartSync, payload := beBytes 1 s.link.state.code }

/-! ## Outstanding blocks and the loss of the lock -/

/-- Any block is outstanding (R167). -/
def State.blocksOut (s : State) : Bool := !s.upload.table.isEmpty

/-- The records of the listed slots return to IDLE with their marks cleared (R5). -/
def releaseSlots (slots : List Nat) (s : State) : State :=
  slots.foldl (fun s slot =>
    match s.recordAt slot with
    | none => s
    | some r => setRecord slot r.release s) s

/-- The Upload Engine abandons its outstanding blocks and becomes IDLE with its cursor at 0 (R180, R185). -/
def abandonBlocks (s : State) : State :=
  let s := releaseSlots (s.upload.table.flatMap (fun o => o.slots)) s
  { s with upload.table := [], upload.state := .idle, upload.cursor := some 0 }

/-- A load in LOADING owned by DOCK is discarded (R38, R47). -/
def discardDockLoad (s : State) : State :=
  if s.route.state = .loading ∧ s.route.owner = .dock then discardRoute s else s

/-- What a loss of the lock does beyond the link (R152, R157): blocks abandoned, a dock-owned load discarded. -/
def lockLoss (s : State) : State := discardDockLoad (abandonBlocks s)

/-- The link's own part of DETACHED (R152): receiver in HUNT, queue emptied, a frame being sent cut off, check result gone. -/
def Link.detach (l : Link) : Link :=
  { l with
    state := .detached
    receiver := .hunt
    txQueue := []
    sending := none
    held := .none
    errors := 0
    patterns := 0 }

/-- The link becomes ACQUIRING as at a rise of DOCK_PRESENT (R152). -/
def Link.acquire (l : Link) : Link := { l with state := .acquiring, syncRun := 0, receiver := .hunt }

/-- The link becomes ACQUIRING if DOCK_PRESENT is high (R166). -/
def acquireIfPresent (s : State) : State := if s.dockPresent then { s with link := s.link.acquire } else s

/-- The liveness interval expires and the lock is lost (R157). -/
def loseLock (s : State) : State :=
  let s := lockLoss s
  raise attDockChange
    { s with link := { s.link.acquire with liveness := 2, txQueue := [], sending := none } }

/-! ## Warm reset (R195, R206 and the reset rule of each chapter) -/

/-- The unit's part of a warm reset (R105): the record of an abandoned computation goes back to QUEUED, and the queue is
rebuilt in ascending slot number. -/
def resetEval (s : State) : State :=
  let s : State :=
    match s.eval.running with
    | none => s
    | some c =>
      if c.departed then s
      else
        match s.recordAt c.slot with
        | none => s
        | some r => if r.eval = .running then setRecord c.slot { r with eval := .queued } s else s
  { s with eval := { running := none,
                     queue := (s.roster.slots.filter (fun e => decide (e.2.eval = .queued))).map (fun e => e.1) } }

/-- Each block acts on its own state at a warm reset (R47, R51, R63, R86, R105, R150, R166, R185, R196, R200). -/
def warmReset (cause : ResetCause) (s : State) : State :=
  let s := discardDockLoad (abandonBlocks s)
  let s := resetEval s
  { s with
    channels := Quad.all {}
    rotation := 3
    seg.staged := s.seg.applied
    link := { s.link.detach with syncRun := 0, liveness := 0 }
    upload := { s.upload with sent := 0, retired := 0, returned := 0, timeouts := 0, strays := 0, ignored := 0 }
    port.buffer := none
    port.causes := 0#8
    port.cursor := none
    port.resetCause := cause
    lines.pulse := 0 }

/-! ## The Command Port (R186 to R188) -/

/-- The response buffer takes a response (R188). -/
def answer (st : Status) (data : List Byte) (s : State) : State := { s with port.buffer := some ⟨st, data⟩ }

/-- The response buffer takes a response, and the command has been taken. -/
def reply (st : Status) (data : List Byte) (s : State) : Answer := .next (answer st data s)

/-- The transaction is one the port takes (R186): the autoload has ended, RESET_N is high, and it was so when CS_N fell
and since. -/
def State.takes (s : State) (dropped : Bool) : Bool := s.awake && !dropped

/-- MISO carries the fill byte for every whole byte of a command transaction (R186). -/
def carryFill (tx : Tx) (s : State) : State :=
  { s with port.miso := List.replicate (1 + tx.rest.length) Config.fillByte }

/-- The length check of R187 passes: the length byte is there, no partial byte, as many argument bytes as it declares, and
the length the command requires. -/
def txFits (tx : Tx) (len : Nat) : Bool :=
  match tx.rest with
  | [] => false
  | n :: args => !tx.partialEnd && decide (args.length = n.toNat) && decide (n.toNat = len)

/-- The argument bytes of a transaction. -/
def txArgs (tx : Tx) : List Byte := tx.rest.drop 1

/-- A transaction that carries exactly the given argument bytes and is not dropped. -/
def txCarrying (args : List Byte) : Tx :=
  { rest := BitVec.ofNat 8 args.length :: args, partialEnd := false, dropped := false }

/-- A command transaction with a known code (R186, R187): discarded, answered BAD_LENGTH, or handed to its owner with its
argument bytes. -/
def command (code : Byte) (len : Nat) (owner : List Byte → State → Answer) (tx : Tx) (s : State) : Answer :=
  if s.takes tx.dropped then
    let s := carryFill tx s
    if txFits tx len then owner (txArgs tx) s
    else reply .badLength [code, BitVec.ofNat 8 (min 255 (txArgs tx).length)] s
  else .next s

end Sys2Proof.Machine
end

