-- ==== Sys2Proof/Machine/DockFrames.lean ====
section
/-! DEFINITION. The receiver of the Dock Link and the judging of a frame (R153, R154), and what an arrival does by the state
of the link (R155, R158, R162). -/

namespace Sys2Proof.Machine

/-! ## The receiver (R153) and the integrity of a frame (R154) -/

/-- What the end of a frame on the line brings: an errored arrival, or a valid frame. -/
inductive Arrival where
  | errored
  | valid (typ : Byte) (payload : List Byte)
deriving DecidableEq, Repr

/-- The payload length of the bytes gathered: type, two length bytes, payload, CRC. -/
def gatheredLength (g : List Byte) : Nat := fieldAt g 1 2

/-- Integrity of a complete frame from its gathered bytes and fault mark (R154, step 1). -/
def judgeFrame (g : List Byte) (fault : Bool) : Arrival :=
  let len := gatheredLength g
  let body := g.take (3 + len)
  if fault then .errored
  else if crc32 body = BitVec.ofNat 32 (fieldAt g (3 + len) 4) then .valid (byteAt g 0) (body.drop 3)
  else .errored

/-- One byte at the receiver, and the arrival it completes, if any (R153). -/
def receiveByte (rx : Receiver) (b : RxByte) : Receiver × Option Arrival :=
  match rx with
  | .hunt => if b.val = Config.delimiter then (.inFrame [] false, none) else (.hunt, none)
  | .inFrame bytes fault =>
    let g := bytes ++ [b.val]
    let f := fault || b.fault
    if g.length < 3 then (.inFrame g f, none)
    else if 1023 < gatheredLength g then (.hunt, some .errored)
    else if g.length < 3 + gatheredLength g + 4 then (.inFrame g f, none)
    else (.hunt, some (judgeFrame g f))

/-- The line idle for longer than the dock gap time (R153). -/
def receiveGap (rx : Receiver) : Receiver × Option Arrival :=
  match rx with
  | .hunt => (.hunt, none)
  | .inFrame _ _ => (.hunt, some .errored)

/-- A run of bytes at a receiver in HUNT, and the arrivals they complete, in order. -/
def receiveLine (line : List RxByte) : Receiver × List Arrival :=
  line.foldl (fun acc b => ((receiveByte acc.1 b).1, acc.2 ++ (receiveByte acc.1 b).2.toList)) (.hunt, [])

/-! ## What an arrival does, by the state of the link -/

/-- A valid frame leaves the receiver in HUNT, and sets the liveness count to 0 in LOCKED and CHECKING (R153, R154). -/
def refresh (s : State) : State :=
  match s.link.state with
  | .locked | .checking => { s with link.liveness := 0, link.receiver := .hunt }
  | .acquiring => { s with link.receiver := .hunt }
  | .detached => s

/-- An arrival counts against a running check (R162). -/
def countCheckError (s : State) : State :=
  { s with link.errors := satInc Config.countTop s.link.errors }

/-- A CHECK PATTERN frame is counted (R162). -/
def countPattern (s : State) : State :=
  { s with link.patterns := satInc Config.countTop s.link.patterns }

/-- The SYNC run becomes 0 (R155). -/
def clearSyncRun (s : State) : State := { s with link.syncRun := 0 }

/-- A message other than SYNC, CHECK PATTERN and CHECK END arrives: it clears the SYNC run in ACQUIRING (R155), is acted on
in LOCKED (R158) and is a check error in CHECKING (R162); DETACHED ignores the line (R152). -/
def messageArrival (act : State → State) (s : State) : State :=
  match s.link.state with
  | .detached => s
  | .acquiring => clearSyncRun (refresh s)
  | .locked => act (refresh s)
  | .checking => countCheckError (refresh s)

/-- An errored frame arrives (R155, R158, R162); the liveness count is not refreshed. -/
def erroredArrival (s : State) : State :=
  match s.link.state with
  | .detached => s
  | .acquiring => clearSyncRun s
  | .locked => s
  | .checking => countCheckError s

/-- A valid frame that is no message arrives (R155, R158, R162); in a check, one of the CHECK PATTERN type also counts as a
pattern. -/
def unusableArrival (typ : Byte) (s : State) : State :=
  match s.link.state with
  | .detached => s
  | .acquiring => clearSyncRun (refresh s)
  | .locked => refresh s
  | .checking =>
    if typ = typCheckPattern then countCheckError (countPattern (refresh s)) else countCheckError (refresh s)

/-- The lock is acquired (R156). -/
def acquireLock (s : State) : State :=
  let s := { s with link.state := .locked, link.syncRun := 0, link.liveness := 0 }
  raise attDockChange (offer (unitStatusFrame s) s)

/-- A SYNC message arrives (R155, R158, R162). -/
def syncArrival (s : State) : State :=
  match s.link.state with
  | .detached => s
  | .acquiring =>
    let s := refresh s
    if s.link.syncRun + 1 < 4 then { s with link.syncRun := s.link.syncRun + 1 } else acquireLock s
  | .locked | .checking => refresh s

/-- CHECK START in LOCKED (R161). -/
def checkStart (s : State) : State :=
  if s.blocksOut then offer (checkResultFrame verdictRefused s) s
  else { s with link.state := .checking, link.held := .none, link.errors := 0, link.patterns := 0 }

/-- A CHECK PATTERN message arrives: counted and compared in CHECKING (R162), discarded in LOCKED (R158). -/
def checkPatternArrival (payload : List Byte) (s : State) : State :=
  match s.link.state with
  | .detached => s
  | .acquiring => clearSyncRun (refresh s)
  | .locked => refresh s
  | .checking =>
    if payload = checkPatternBytes then countPattern (refresh s) else countCheckError (countPattern (refresh s))

/-- The end of a check (R163). -/
def endCheck (s : State) : State :=
  let pass := decide (s.link.errors = 0)
  let s := { s with link.state := .locked, link.held := if pass then .pass else .fail }
  raise attCheckDone (offer (checkResultFrame (if pass then verdictPass else verdictFail) s) s)

/-- A CHECK END message arrives (R155, R158, R163). -/
def checkEndArrival (s : State) : State :=
  match s.link.state with
  | .detached => s
  | .acquiring => clearSyncRun (refresh s)
  | .locked => refresh s
  | .checking => endCheck (refresh s)

end Sys2Proof.Machine
end

