-- ==== Sys2Proof/Machine/RouteLife.lean ====
section
/-! DEFINITION. Route Control (chapter 2): the load, the seal, the begin, the close and the discard, as the host's commands
and as the depot's messages. -/

namespace Sys2Proof.Machine

/-! ## What both parties can do -/

/-- The manifest of LOAD OPEN and ROUTE OPEN, and the checks of R30: none when they pass. -/
def openRefusal (manifest : List Byte) (s : State) : Option Status :=
  if s.route.state ≠ .empty then some .notEmpty
  else if fieldAt manifest 4 2 = 0 ∨ Config.slotCount < fieldAt manifest 4 2 then some .rosterFull
  else none

/-- A load is opened (R30). -/
def openLoad (owner : Owner) (manifest : List Byte) (s : State) : State :=
  { s with
    route := { s.route with
      state := .loading
      owner := owner
      routeId := BitVec.ofNat 32 (fieldAt manifest 0 4)
      count := fieldAt manifest 4 2
      check := BitVec.ofNat 32 (fieldAt manifest 6 4)
      received := 0
      rejects := 0
      running := 0xFFFFFFFF#32
      rejectList := [] } }

/-- The state test and then the owner test of a load message (R31): none when they pass. -/
def loadRefusal (party : Owner) (s : State) : Option Status :=
  if s.route.state ≠ .loading then some .wrongRouteState
  else if s.route.owner ≠ party then some .notOwner
  else none

/-- A rejected load record is counted, and listed while the list has room (R34). -/
def Route.reject (r : Route) (entry : Reject) : Route :=
  { r with
    rejects := satInc Config.countTop r.rejects
    rejectList := if r.rejectList.length < Config.rejectListMax then r.rejectList ++ [entry] else r.rejectList }

/-- The counting and folding of a record taken into the load (R32). -/
def Route.receive (r : Route) (image : List Byte) : Route :=
  { r with received := satInc Config.countTop r.received, running := crc32Fold r.running image }

/-- A record taken into the load (R32, R33): counted, folded, validated, then created or rejected. The reason is none when
it was created. -/
def takeLoadRecord (image : List Byte) (s : State) : State × Option Status :=
  let im := loadImageOf image
  let counted := { s with route := s.route.receive image }
  match validate counted im with
  | none => (createRecord im counted, none)
  | some why =>
    ({ counted with route := counted.route.reject { arrival := s.route.received, meterId := im.meterId, reason := why } },
     some why)

/-- The three tests of the seal: count, rejects, the inverted running check (R36, R209). -/
def sealTests (r : Route) : Bool × Bool × Bool :=
  (decide (r.received = r.count), decide (r.rejects = 0), decide (~~~ r.running = r.check))

/-- The three tests hold. -/
def sealPasses (r : Route) : Bool := (sealTests r).1 && (sealTests r).2.1 && (sealTests r).2.2

/-- The load is sealed (R36): READY or LOAD_FAULT, LOAD_DONE raised. The final inversion is taken in the comparison of the third test,
and the running check register itself keeps its value, as R28 has it: DESIGN CHOICE (log entry 24). -/
def sealLoad (s : State) : State :=
  raise attLoadDone { s with route.state := if sealPasses s.route then .ready else .loadFault }

/-- How many records in EXPECTED name a segment: those a close turns NOT_READ (R42, R148). -/
def expectedIn (slots : List (Nat × Record)) (n : Nat) : Nat :=
  (slots.filter (fun e => decide (e.2.segment = n) && decide (e.2.state = .expected))).length

/-- The route is closed (R42, R148). -/
def closeRoute (s : State) : State :=
  let table := mapSegs (fun n e =>
    if e.state = .vacant then { e with read := e.read + expectedIn s.roster.slots n }
    else { e with read := e.read + expectedIn s.roster.slots n, state := .closed, deadline := none }) s.seg.table
  { s with
    route.state := .closed
    roster.slots := s.roster.slots.map (fun e => (e.1, if e.2.state = .expected then { e.2 with state := .notRead } else e.2))
    seg := { table := table } }

/-! ## The depot's messages, in LOCKED (R29) -/

/-- ROUTE OPEN handed over (R30). -/
def dockRouteOpen (payload : List Byte) (s : State) : State :=
  match openRefusal payload s with
  | some why => answerDepot why s
  | none => answerDepot .ok (openLoad .dock payload s)

/-- ROUTE RECORD handed over (R29, R32): answered only when it is refused for the route state or the load owner. -/
def dockRouteRecord (payload : List Byte) (s : State) : State :=
  match loadRefusal .dock s with
  | some why => answerDepot why s
  | none => (takeLoadRecord payload s).1

/-- ROUTE SEAL handed over (R36). -/
def dockRouteSeal (s : State) : State :=
  match loadRefusal .dock s with
  | some why => answerDepot why s
  | none => answerDepot .ok (sealLoad s)

/-- ROUTE ABORT handed over (R45). -/
def dockRouteAbort (s : State) : State :=
  if s.route.state = .empty then answerDepot .wrongRouteState s
  else if s.route.state = .loading ∧ s.route.owner = .commandPort then answerDepot .notOwner s
  else if s.blocksOut then answerDepot .uploadBusy s
  else answerDepot .ok (discardRoute s)

/-- CLOSE ROUTE handed over (R42). -/
def dockCloseRoute (s : State) : State :=
  if s.route.state = .active then answerDepot .ok (closeRoute s) else answerDepot .wrongRouteState s

/-! ## The host's commands -/

/-- LOAD OPEN taken (R30). -/
def commandLoadOpen (args : List Byte) (s : State) : Answer :=
  match openRefusal args s with
  | some why => reply why [] s
  | none => reply .ok [] (openLoad .commandPort args s)

/-- LOAD_OPEN. -/
def execLoadOpen (tx : Tx) (s : State) : Answer := command 0x10#8 10 commandLoadOpen tx s

/-- LOAD RECORD taken (R32, R33): OK with the slot, or the reason of the failing test. -/
def commandLoadRecord (args : List Byte) (s : State) : Answer :=
  match loadRefusal .commandPort s with
  | some why => reply why [] s
  | none =>
    match takeLoadRecord args s with
    | (s', none) => reply .ok (beBytes 2 s.freeSlot) s'
    | (s', some why) => reply why [] s'

/-- LOAD_RECORD. -/
def execLoadRecord (tx : Tx) (s : State) : Answer := command 0x11#8 17 commandLoadRecord tx s

/-- LOAD SEAL taken (R36): OK with the new route state and the results of the three tests. -/
def commandLoadSeal (_ : List Byte) (s : State) : Answer :=
  match loadRefusal .commandPort s with
  | some why => reply why [] s
  | none =>
    let t := sealTests s.route
    let s := sealLoad s
    reply .ok [BitVec.ofNat 8 s.route.state.code, BitVec.ofNat 8 (bitIf t.1 0 + bitIf t.2.1 1 + bitIf t.2.2 2)] s

/-- LOAD_SEAL. -/
def execLoadSeal (tx : Tx) (s : State) : Answer := command 0x12#8 0 commandLoadSeal tx s

/-- REJECT READ taken (R35). -/
def commandRejectRead (args : List Byte) (s : State) : Answer :=
  match s.route.rejectList[(byteAt args 0).toNat]? with
  | none => reply .endOfList (beBytes 2 s.route.rejects) s
  | some e =>
    reply .ok (beBytes 2 e.arrival ++ beBytes 4 e.meterId.toNat ++ beBytes 1 e.reason.code ++ beBytes 2 s.route.rejects) s

/-- REJECT_READ. -/
def execRejectRead (tx : Tx) (s : State) : Answer := command 0x13#8 1 commandRejectRead tx s

/-- The route begins (R39, R147). -/
def beginRoute (s : State) : State :=
  { s with
    route.state := .active
    route.clock := 0
    seg.applied := {}
    seg.table := mapSegs (fun _ e => { e with visited := false }) s.seg.table }

/-- ROUTE BEGIN taken (R39). -/
def commandRouteBegin (_ : List Byte) (s : State) : Answer :=
  if s.route.state = .ready then reply .ok [] (beginRoute s) else reply .wrongRouteState [] s

/-- ROUTE_BEGIN. -/
def execRouteBegin (tx : Tx) (s : State) : Answer := command 0x14#8 0 commandRouteBegin tx s

/-- ROUTE CLOSE taken (R42). -/
def commandRouteClose (_ : List Byte) (s : State) : Answer :=
  if s.route.state = .active then reply .ok [] (closeRoute s) else reply .wrongRouteState [] s

/-- ROUTE_CLOSE. -/
def execRouteClose (tx : Tx) (s : State) : Answer := command 0x15#8 0 commandRouteClose tx s

/-- ROUTE DISCARD taken (R44). -/
def commandRouteDiscard (_ : List Byte) (s : State) : Answer :=
  if s.route.state = .empty then reply .wrongRouteState [] s
  else if s.blocksOut then reply .uploadBusy [] s
  else reply .ok [] (discardRoute s)

/-- ROUTE_DISCARD. -/
def execRouteDiscard (tx : Tx) (s : State) : Answer := command 0x16#8 0 commandRouteDiscard tx s

end Sys2Proof.Machine
end

