-- ==== Sys2Proof/Machine/UploadEngine.lean ====
section
/-! DEFINITION. The Upload Engine (chapter 9): passes, assembly, acknowledgements and the end of a pass. The expiry of a block
stands in Timebase.lean and the abandonment in Ops.lean. -/

namespace Sys2Proof.Machine

/-- UPLOAD REQUEST handed over (R168). -/
def uploadRequest (s : State) : State :=
  if s.upload.state = .idle ∧ (s.route.state = .active ∨ s.route.state = .closed) then
    { s with
      upload.state := .passing
      upload.cursor := some 0
      upload.sent := 0
      upload.retired := 0
      upload.returned := 0 }
  else { s with upload.ignored := satInc Config.countTop s.upload.ignored }

/-- UPLOAD STOP handed over (R169). -/
def uploadStop (s : State) : State :=
  if s.upload.state = .passing then { s with upload.state := .draining }
  else { s with upload.ignored := satInc Config.countTop s.upload.ignored }

/-- A record is eligible for upload in a route state (R170, Table 9-3). -/
def eligible (route : RouteState) (r : Record) : Bool :=
  !r.upload.isCarried
    && (match route with
        | .active => (decide (r.state = .read) || decide (r.state = .reviewed)) && decide (r.eval = .done)
        | .closed =>
          ((decide (r.state = .read) || decide (r.state = .reviewed) || decide (r.state = .flagged))
              && decide (r.eval = .done))
            || decide (r.state = .notRead)
        | .empty | .loading | .ready | .loadFault => false)

/-- The records an assembly takes: the first sixteen eligible ones at or above the cursor (R171). -/
def State.scan (s : State) (cursor : Nat) : List (Nat × Record) :=
  (s.roster.slots.filter (fun e => decide (cursor ≤ e.1) && eligible s.route.state e.2)).take Config.blockMax

/-- The cursor after a scan: the slot after the sixteenth record taken, or past the end (R171). -/
def cursorAfter (taken : List (Nat × Record)) : Option Nat :=
  if taken.length = Config.blockMax then
    match taken.getLast? with
    | none => none
    | some e => if e.1 + 1 < Config.slotCount then some (e.1 + 1) else none
  else none

/-- The UPLOAD BLOCK frame of the records taken (R172, R173, Table 12-5). -/
def uploadBlockFrame (block : BitVec 8) (taken : List (Nat × Record)) (s : State) : Frame :=
  { typ := typUploadBlock
    payload := [block] ++ beBytes 4 s.route.routeId.toNat ++ beBytes 1 taken.length ++ taken.flatMap (fun e => e.2.image) }

/-- The records taken become CARRIED with the block's number, their marks clear (R172). -/
def carry (block : BitVec 8) (taken : List (Nat × Record)) (s : State) : State :=
  taken.foldl (fun s e => setRecord e.1 { e.2 with upload := .carried block false } s) s

/-- A block is made of the records taken (R172). -/
def makeBlock (taken : List (Nat × Record)) (s : State) : State :=
  let block := s.upload.nextBlock
  let frame := uploadBlockFrame block taken s
  let entry : Outstanding := { block := block, slots := taken.map (fun e => e.1), tenths := s.store.live.timeout }
  let s := carry block taken s
  offer frame
    { s with
      upload.nextBlock := block + 1#8
      upload.table := s.upload.table ++ [entry]
      upload.sent := satInc Config.countTop s.upload.sent }

/-- ASSEMBLY (R171): made while PASSING with the cursor at a slot, fewer than 4 blocks outstanding and the link LOCKED;
otherwise the event is not made (log entry 6). -/
def execAssembly (s : State) : Answer :=
  match s.upload.cursor with
  | none => .next s
  | some cursor =>
    if s.upload.state = .passing ∧ s.upload.table.length < Config.outstandingMax ∧ s.link.state = .locked then
      let taken := s.scan cursor
      let s := { s with upload.cursor := cursorAfter taken }
      .next (if taken = [] then s else makeBlock taken s)
    else .next s

/-- The oldest entry of a block number leaves the Outstanding Table. R172 takes the numbers in the table to be distinct, and
then it is the only one (log entry 23). -/
def removeEntry (block : BitVec 8) (s : State) : State :=
  { s with upload.table := s.upload.table.eraseP (fun o => o.block == block) }

/-- One record of an accepted block: returned with its mark cleared when superseded, otherwise retired (R175). -/
def acceptSlot (s : State) (slot : Nat) : State :=
  match s.recordAt slot with
  | none => s
  | some r =>
    if r.upload.isSuperseded then
      setRecord slot r.release { s with upload.returned := satInc Config.countTop s.upload.returned }
    else retireSlot slot { s with upload.retired := satInc Config.countTop s.upload.retired }

/-- BLOCK ACK handed over (R175 to R177). -/
def blockAck (payload : List Byte) (s : State) : State :=
  let block := byteAt payload 0
  match s.upload.table.find? (fun o => o.block == block) with
  | none => { s with upload.strays := satInc Config.countTop s.upload.strays }
  | some o =>
    if byteAt payload 1 = verdictAccept then removeEntry block (o.slots.foldl acceptSlot s)
    else
      let s := releaseSlots o.slots s
      removeEntry block
        { s with upload.returned := o.slots.foldl (fun n _ => satInc Config.countTop n) s.upload.returned }

/-- The conditions of an end of pass (R179). -/
def State.passEnds (s : State) : Bool :=
  ((decide (s.upload.state = .passing) && s.upload.cursor.isNone) || decide (s.upload.state = .draining))
    && s.upload.table.isEmpty && decide (s.link.state = .locked)

/-- END_OF_PASS (R179): UPLOAD END offered, UPLOAD_DONE raised, the engine IDLE; where its conditions do not hold the event is
not made (log entry 6). -/
def execEndOfPass (s : State) : Answer :=
  .next (if s.passEnds then raise attUploadDone { offer (uploadEndFrame s) s with upload.state := .idle } else s)

end Sys2Proof.Machine
end

