-- ==== Sys2Proof/Machine/Dock.lean ====
section
/-! DEFINITION. The Dock Link Controller's events (chapter 8): the connector, the transmitter, and every arrival from the
depot, whether a message of a known type or the bytes of a frame on the line. -/

namespace Sys2Proof.Machine

/-! ## The connector and the transmitter -/

/-- DOCK_PRESENT_RISE (R152): in DETACHED the link becomes ACQUIRING, once the part has started and is not held (R166). -/
def execDockPresentRise (s : State) : Answer :=
  let s := { s with dockPresent := true }
  .next (if s.awake ∧ s.link.state = .detached then acquireIfPresent s else s)

/-- DOCK_PRESENT_FALL (R152): the link becomes DETACHED; from LOCKED or CHECKING it is a loss of the lock. -/
def execDockPresentFall (s : State) : Answer :=
  let s := { s with dockPresent := false }
  match s.link.state with
  | .locked | .checking =>
    let s := lockLoss s
    .next (raise attDockChange { s with link := s.link.detach })
  | .detached | .acquiring => .next { s with link := s.link.detach }

/-- FRAME_SEND (R159): the frame being sent, if any, has ended, and the oldest waiting frame is sent whole; with none waiting
DOCK_TX idles (log entry 12). -/
def execFrameSend (s : State) : Answer :=
  match s.link.txQueue with
  | [] => .next { s with link.sending := none }
  | f :: rest => .next { s with link.sending := some f, link.txQueue := rest }

/-! ## Arrivals -/

/-- A valid frame arrives: a message by its type and length, or an unusable frame (R154, R158). -/
def validArrival (typ : Byte) (payload : List Byte) (s : State) : State :=
  if messageLength typ = some payload.length then
    if typ = typSync then syncArrival s
    else if typ = typRouteOpen then messageArrival (dockRouteOpen payload) s
    else if typ = typRouteRecord then messageArrival (dockRouteRecord payload) s
    else if typ = typRouteSeal then messageArrival dockRouteSeal s
    else if typ = typRouteAbort then messageArrival dockRouteAbort s
    else if typ = typCloseRoute then messageArrival dockCloseRoute s
    else if typ = typUploadRequest then messageArrival uploadRequest s
    else if typ = typUploadStop then messageArrival uploadStop s
    else if typ = typBlockAck then messageArrival (blockAck payload) s
    else if typ = typCheckStart then messageArrival checkStart s
    else if typ = typCheckPattern then checkPatternArrival payload s
    else checkEndArrival s
  else unusableArrival typ s

/-- An arrival at the receiver acts. -/
def arrive (a : Option Arrival) (s : State) : State :=
  match a with
  | none => s
  | some .errored => erroredArrival s
  | some (.valid typ payload) => validArrival typ payload s

/-- One byte on DOCK_RX: the receiver takes it (R153), and an arrival it completes acts (R154); DETACHED ignores it (R152). -/
def lineByte (s : State) (b : RxByte) : State :=
  if s.link.state = .detached then s
  else
    let out := receiveByte s.link.receiver b
    arrive out.2 { s with link.receiver := out.1 }

/-- DOCK_RX idle for longer than the dock gap time (R153). -/
def lineGap (s : State) : State :=
  if s.link.state = .detached then s
  else
    let out := receiveGap s.link.receiver
    arrive out.2 { s with link.receiver := out.1 }

/-- ERRORED_FRAME (R153, R154): the bytes of the frame on DOCK_RX, each with its line fault, and the idle line after them,
through the receiver itself (log entry 8). -/
def execErroredFrame (line : List RxByte) (s : State) : Answer := .next (lineGap (line.foldl lineByte s))

/-- UNUSABLE_FRAME (R154): a valid frame of an unknown type or a wrong length. -/
def execUnusableFrame (typ : Byte) (payload : List Byte) (s : State) : Answer := .next (validArrival typ payload s)

/-- SYNC (R155, R158, R162). -/
def execSync (s : State) : Answer := .next (syncArrival s)

/-- ROUTE_OPEN (R30); with another payload length the frame is unusable (R154). -/
def execRouteOpen (payload : List Byte) (s : State) : Answer :=
  .next (if payload.length = 10 then messageArrival (dockRouteOpen payload) s else unusableArrival typRouteOpen s)

/-- ROUTE_RECORD (R32); with another payload length the frame is unusable (R154). -/
def execRouteRecord (payload : List Byte) (s : State) : Answer :=
  .next (if payload.length = 17 then messageArrival (dockRouteRecord payload) s else unusableArrival typRouteRecord s)

/-- ROUTE_SEAL (R36). -/
def execRouteSeal (s : State) : Answer := .next (messageArrival dockRouteSeal s)

/-- ROUTE_ABORT (R45). -/
def execRouteAbort (s : State) : Answer := .next (messageArrival dockRouteAbort s)

/-- CLOSE_ROUTE (R42). -/
def execCloseRoute (s : State) : Answer := .next (messageArrival dockCloseRoute s)

/-- UPLOAD_REQUEST (R168). -/
def execUploadRequest (s : State) : Answer := .next (messageArrival uploadRequest s)

/-- UPLOAD_STOP (R169). -/
def execUploadStop (s : State) : Answer := .next (messageArrival uploadStop s)

/-- BLOCK_ACK (R175 to R177); with another payload length the frame is unusable (R154). -/
def execBlockAck (payload : List Byte) (s : State) : Answer :=
  .next (if payload.length = 2 then messageArrival (blockAck payload) s else unusableArrival typBlockAck s)

/-- CHECK_START (R161); in CHECKING it is a check error (R162). -/
def execCheckStart (s : State) : Answer := .next (messageArrival checkStart s)

/-- CHECK_PATTERN (R158, R162); with another payload length the frame is unusable (R154). -/
def execCheckPattern (payload : List Byte) (s : State) : Answer :=
  .next (if payload.length = 64 then checkPatternArrival payload s else unusableArrival typCheckPattern s)

/-- CHECK_END (R163). -/
def execCheckEnd (s : State) : Answer := .next (checkEndArrival s)

end Sys2Proof.Machine
end

