-- ==== Sys2Proof/Machine/Arithmetic.lean ====
section
/-! DEFINITION. The arithmetic of the part: the seven stages of an evaluation (R93 to R100) and the smoothed signal (R81). -/

namespace Sys2Proof.Machine

/-! ## The stages of an evaluation -/

/-- Stage 2: the elapsed hours, 1 in place of 0 (R94). -/
def elapsedHours (baselineAge tRead : Nat) : Nat := max 1 (baselineAge + tRead / 3600)

/-- The allowance: H times E, divided by 24 and rounded up (R96). -/
def allowance (bandHigh hours : Nat) : Nat := (bandHigh * hours + 23) / 24

/-- What stage 3 finds: the advance, its direction and whether a rollover was accepted (R95, R96). -/
structure Advance where
  delta    : Nat
  backward : Bool
  rollover : Bool
deriving DecidableEq, Repr

/-- Stage 3: the advance of the register since the baseline (R95, R96). -/
def advanceOf (modulus baseline value allowed : Nat) : Advance :=
  if baseline ≤ value then { delta := value - baseline, backward := false, rollover := false }
  else if value + modulus - baseline ≤ allowed then
    { delta := value + modulus - baseline, backward := false, rollover := true }
  else { delta := baseline - value, backward := true, rollover := false }

/-- Stage 4: the daily rate, 65535 at most (R97). -/
def dailyRate (delta hours : Nat) : Nat := min 65535 (delta * 24 / hours)

/-- Stage 5: the class (R98). -/
def classOf (backward : Bool) (rate bandLow bandHigh : Nat) : Class :=
  if backward then .reverse
  else if rate < bandLow then .low
  else if bandHigh < rate then .high
  else .normal

/-- The cause of a class, none for NORMAL (R99). -/
def Class.cause : Class → BitVec 10
  | .normal => 0#10
  | .low => causeLow
  | .high => causeHigh
  | .reverse => causeReverse

/-- The indications of a latched set that are causes (R99): all but LOW_BATTERY. -/
def latchedCauses (l : BitVec 7) : BitVec 10 :=
  (if l &&& latchMagnet = 0#7 then 0#10 else causeMagnet)
  ||| (if l &&& latchCover = 0#7 then 0#10 else causeCover)
  ||| (if l &&& latchBackflow = 0#7 then 0#10 else causeBackflow)
  ||| (if l &&& latchRestart = 0#7 then 0#10 else causeRestart)
  ||| (if l &&& latchIdent = 0#7 then 0#10 else causeIdent)
  ||| (if l &&& latchConflict = 0#7 then 0#10 else causeConflict)

/-- Stage 6: the cause set (R99). -/
def causeSet (c : Class) (rollover : Bool) (latched : BitVec 7) : BitVec 10 :=
  c.cause ||| (if rollover then causeRollover else 0#10) ||| latchedCauses latched

/-- Stage 7: the sum of the weights of the causes, 255 at most (R100); bit i of a cause set has the i-th weight. -/
def scoreOf (causes : BitVec 10) (weights : List Nat) : Nat :=
  min 255 ((List.range 10).foldl (fun sum i => if causes.getLsbD i then sum + weights.getD i 0 else sum) 0)

/-- The result of the snapshot's inputs (R92 to R100). -/
def Snapshot.result (p : Snapshot) : Result :=
  let hours := elapsedHours p.baselineAge p.tRead
  let adv := advanceOf (modulusOf p.digits) p.baseline p.value (allowance p.bandHigh hours)
  let rate := dailyRate adv.delta hours
  let cls := classOf adv.backward rate p.bandLow p.bandHigh
  let causes := causeSet cls adv.rollover p.latched
  { delta := adv.delta, rollover := adv.rollover, rate := rate, cls := cls, causes := causes,
    score := scoreOf causes p.weights }

/-- The snapshot of a record with its reading and its profile (R91, Table 5-2). -/
def snapshotOf (r : Record) (x : Reading) (p : Profile) : Snapshot :=
  { generation := r.generation
    value := x.value
    tRead := x.tRead
    baseline := r.baseline
    baselineAge := r.baselineAge
    bandLow := r.bandLow
    bandHigh := r.bandHigh
    digits := p.digits
    threshold := p.threshold
    weights := p.weights
    latched := r.latched }

/-! ## The signal (R81) -/

/-- The smoothed value after a further word: one step of (k + 1) times the difference, divided by 32 and truncated toward
zero. -/
def smoothStep (smoothed k rssi : Nat) : Nat :=
  ((smoothed : Int) + Int.tdiv (((k : Int) + 1) * ((rssi : Int) - (smoothed : Int))) 32).toNat

/-- The signal after an accepted word or a repeat (R81). -/
def signalAfter (old : Option Signal) (k rssi : Nat) : Signal :=
  match old with
  | none => { best := rssi, smoothed := rssi }
  | some g => { best := max g.best rssi, smoothed := smoothStep g.smoothed k rssi }

end Sys2Proof.Machine
end

