-- ==== Sys2Proof/Machine/Air.lean ====
section
/-! DEFINITION. The air path: the channel inputs and the judging of an arrival (chapter 3), the Match Engine's take
(chapter 4), and CHANNEL STATS (R61, R62). -/

namespace Sys2Proof.Machine

/-! ## The channel inputs (R49, R52) -/

/-- A byte joins the word in assembly (R49). -/
def Assembling.push (w : Assembling) (b : RxByte) : Assembling :=
  { count := min 15 (w.count + 1)
    fault := w.fault || b.fault
    bytes := if w.count < 14 then w.bytes ++ [b.val] else w.bytes }

/-- A byte at a listening channel (R49). -/
def Channel.byte (c : Channel) (b : RxByte) : Channel :=
  match c.rx with
  | .gapWait => c
  | .assembling => { c with word := c.word.push b }

/-- The CRC-16 of a channel word matches its bytes 11 and 12 (R54). -/
def airCrcMatches (bs : List Byte) : Bool := crc16 (bs.take 11) == BitVec.ofNat 16 (fieldAt bs 11 2)

/-- The outcome of the tests of Table 3-2 on a word that arrives at a FIFO holding `held` words: the counter raised (R52). -/
def judgeWord (w : Assembling) (held : Nat) : Counter :=
  if w.count ≠ 14 ∨ w.fault = true then .formatError
  else if bitsOf (byteAt w.bytes 0) 7 4 ≠ 0xA then .formatError
  else if airCrcMatches w.bytes = false then .crcFail
  else if Config.fifoDepth ≤ held then .overrun
  else .framesIn

/-- The arrival of a channel word (R52, R55, R57): counted, queued when it passes every test, INTAKE_OVERRUN raised at an
overrun; the word in assembly is emptied. -/
def wordArrival (ch : Fin 4) (s : State) : State :=
  let c := s.channels.get ch
  let k := judgeWord c.word c.fifo.length
  let c' : Channel :=
    { c with
      word := {}
      fifo := if k = .framesIn then c.fifo ++ [c.word.bytes] else c.fifo
      stats := c.stats.raise k }
  let s := { s with channels := s.channels.set ch c' }
  if k = .overrun then raise attIntakeOverrun s else s

/-- A word-end gap at a listening channel (R49). -/
def channelGap (ch : Fin 4) (s : State) : State :=
  let c := s.channels.get ch
  match c.rx with
  | .gapWait => { s with channels := s.channels.set ch { c with rx := .assembling, word := {} } }
  | .assembling => if c.word.count = 0 then s else wordArrival ch s

/-- WORD_END_GAP (R49): an idle input of a channel that listens (R50, R51). -/
def execWordEndGap (ch : Fin 4) (s : State) : Answer := .next (if s.rxEnable ch then channelGap ch s else s)

/-- CHANNEL_WORD_ARRIVAL (R49, R52): the bytes received since the last gap, each with its line fault, and the gap that ends
them (log entry 8). A channel that does not listen ignores them (R50, R51). -/
def execChannelWordArrival (ch : Fin 4) (bytes : List RxByte) (s : State) : Answer :=
  .next (if s.rxEnable ch then channelGap ch (onChannel ch (fun c => bytes.foldl Channel.byte c) s) else s)

/-! ## The Match Engine (chapter 4) -/

/-- The channels in the order that follows the rotation pointer (R66). -/
def rotationOrder (p : Fin 4) : List (Fin 4) := [p + 1, p + 2, p + 3, p]

/-- The channel of the next take, if any FIFO holds a word (R66). -/
def State.nextChannel (s : State) : Option (Fin 4) :=
  (rotationOrder s.rotation).find? (fun ch => !(s.channels.get ch).fifo.isEmpty)

/-- What tests 3 to 7 make of a word for its record (R71 to R77). -/
inductive Verdict where
  | kindMismatch | invalidReading | badReading | repeats | conflict | stale
  | accepted (restart : Bool)
deriving DecidableEq, Repr

/-- The sequence test (R74, Table 4-2). -/
def sequenceVerdict (w : AirWord) (held : Option Reading) : Verdict :=
  match held with
  | none => .accepted false
  | some x =>
    let d := (w.seq - x.seq).toNat
    if d = 0 then (if w.value = x.value then .repeats else .conflict)
    else if d ≤ 127 then .accepted false
    else if w.seq.toNat ≤ 3 then .accepted true
    else .stale

/-- Tests 3 and 5 to 7 in their order (R68); `modulus` is that of the record's profile in the live table (R73). -/
def verdictOf (w : AirWord) (r : Record) (modulus : Nat) : Verdict :=
  if w.kind ≠ r.kind then .kindMismatch
  else if w.invalid then .invalidReading
  else if modulus ≤ w.value then .badReading
  else sequenceVerdict w r.reading

/-- What a word adds to the latched set (R71, R72, R75, R76): IDENT alone at test 3; otherwise the status indications, with
CONFLICT or RESTART by the outcome. -/
def latchesOf (w : AirWord) (v : Verdict) : BitVec 7 :=
  match v with
  | .kindMismatch => latchIdent
  | .conflict => w.indications ||| latchConflict
  | .accepted true => w.indications ||| latchRestart
  | .invalidReading | .badReading | .repeats | .stale | .accepted false => w.indications

/-- The counter of an outcome (R67, Table 4-1). -/
def Verdict.counter : Verdict → Counter
  | .kindMismatch => .kindMismatch
  | .invalidReading => .invalidReading
  | .badReading => .badReading
  | .repeats => .repeats
  | .conflict => .conflict
  | .stale => .stale
  | .accepted _ => .accepted

/-- The word is accepted (R78). -/
def Verdict.isAccepted : Verdict → Bool
  | .accepted _ => true
  | _ => false

/-- The word was heard as a burst of the record: accepted or a repeat (R78, R80). -/
def Verdict.isHeard : Verdict → Bool
  | .accepted _ | .repeats => true
  | _ => false

/-- The take bumps the generation and requests an evaluation (R82, Table 4-3). -/
def takeBumps (w : AirWord) (v : Verdict) (r : Record) : Bool :=
  v.isAccepted || (decide (r.latched ||| latchesOf w v ≠ r.latched) && r.reading.isSome)

/-- The record after the take, but for what the evaluation request does (R78 to R82, R84). -/
def recordAfterTake (w : AirWord) (v : Verdict) (ch : Fin 4) (clock k : Nat) (r : Record) : Record :=
  let r' : Record :=
    { r with
      latched := r.latched ||| latchesOf w v
      hearCount := if v.isHeard then satInc 255 r.hearCount else r.hearCount
      signal := if v.isHeard then some (signalAfter r.signal k w.rssi) else r.signal
      reading := if v.isAccepted then some { value := w.value, seq := w.seq, tRead := clock, channel := ch } else r.reading
      state := if v.isAccepted ∧ r.state = .expected then .read else r.state }
  if takeBumps w v r then r'.bump.supersede else r'

/-- The effects of a take on the record in a slot (R67). -/
def matchRecord (ch : Fin 4) (w : AirWord) (slot : Nat) (r : Record) (s : State) : State :=
  let p := s.store.live.profileAt r.profile
  let v := verdictOf w r (modulusOf p.digits)
  let s := countOn ch v.counter s
  let s := setRecord slot (recordAfterTake w v ch s.route.clock p.smoothing r) s
  let s := if takeBumps w v r then requestEval slot s else s
  if v.isAccepted ∧ r.state = .expected then segRead r.segment s else s

/-- The matching of a word taken from a channel (R68 to R70). -/
def matchWord (ch : Fin 4) (w : AirWord) (s : State) : State :=
  if s.route.state = .active then
    match s.lookup w.meterId with
    | none => countOn ch .unknown s
    | some slot =>
      match s.recordAt slot with
      | none => countOn ch .unknown s
      | some r => matchRecord ch w slot r s
  else countOn ch .routeInactive s

/-- TAKE (R56, R65 to R67): the head word of the next non-empty FIFO in rotation is removed and matched in one event. With
no word waiting, or while RESET_N is held low (R86), no take is made (log entry 6). -/
def execTake (s : State) : Answer :=
  if s.awake then
    match s.nextChannel with
    | none => .next s
    | some ch =>
      let word := airWordOf (((s.channels.get ch).fifo).headD [])
      .next (matchWord ch word { onChannel ch (fun c => { c with fifo := c.fifo.tail }) s with rotation := ch })
  else .next s

/-! ## CHANNEL STATS (R61, R62) -/

/-- CHANNEL STATS taken (R61, R62). The enable byte is 1 for enabled and 0 for disabled: DESIGN CHOICE, for Table 12-6 gives its
length alone (log entry 25, unsafe). -/
def commandChannelStats (args : List Byte) (s : State) : Answer :=
  if h : (byteAt args 0).toNat < 4 then
    let ch : Fin 4 := ⟨(byteAt args 0).toNat, h⟩
    let c := s.channels.get ch
    let data := beBytes 1 ch.val ++ beBytes 1 (bitIf (s.store.live.enables.get ch) 0) ++ beBytes 1 c.fifo.length ++ c.stats.bytes
    reply .ok data (if byteAt args 1 = 0#8 then s else onChannel ch (fun c => { c with stats := {} }) s)
  else reply .notFound [] s

/-- CHANNEL_STATS. -/
def execChannelStats (tx : Tx) (s : State) : Answer := command 0x30#8 2 commandChannelStats tx s

end Sys2Proof.Machine
end

