-- ==== Sys2Proof/Machine/Evaluation.lean ====
section
/-! DEFINITION. The Evaluation Unit's events (R91, R101, R102), the flag decision (R108 to R111), and the commands of the
Flag Chain (R113, R114, R116). -/

namespace Sys2Proof.Machine

/-! ## Start and completion -/

/-- EVALUATION_START (R91): made when the unit is IDLE and the queue holds a slot, but not while RESET_N is held low
(R105); otherwise the event is not made (log entry 6). -/
def execEvaluationStart (s : State) : Answer :=
  match s.awake, s.eval.running, s.eval.queue with
  | true, none, slot :: rest =>
    match s.recordAt slot with
    | none => .fault .queueHeadUnfit
    | some r =>
      match r.reading with
      | none => .fault .queueHeadUnfit
      | some x =>
        let snap := snapshotOf r x (s.store.live.profileAt r.profile)
        .next { setRecord slot { r with eval := .running } s with
                eval := { running := some { slot := slot, snap := snap, departed := false }, queue := rest } }
  | _, _, _ => .next s

/-- The flag decision flags the record (R108 to R111): the score reaches a non-zero threshold, and the record is READ, or
REVIEWED with a cause absent from its reviewed causes. -/
def flags (threshold : Nat) (res : Result) (r : Record) : Bool :=
  decide (threshold ≠ 0) && decide (threshold ≤ res.score)
    && (match r.state with
        | .read => true
        | .reviewed => decide (res.causes &&& ~~~ (r.reviewedCauses.getD 0#10) ≠ 0#10)
        | .expected | .flagged | .notRead => false)

/-- A record is flagged: its slot joins the tail of the chain, its segment's flagged count rises, FLAG_ADDED is raised (R109). -/
def flagRecord (slot : Nat) (r : Record) (s : State) : State :=
  let s := setRecord slot { r with state := .flagged } s
  raise attFlagAdded (segFlag r.segment { s with chain := s.chain ++ [slot] })

/-- A result is written, and the flag decision made with the snapshot's threshold (R102, R108). -/
def writeResult (slot : Nat) (res : Result) (threshold : Nat) (r : Record) (s : State) : State :=
  let r' : Record := { r with result := some res, eval := .done }.supersede
  if flags threshold res r then flagRecord slot r' s else setRecord slot r' s

/-- EVALUATION_COMPLETION (R101): the result of the running computation is dropped or written, and the unit becomes IDLE.
With no running computation the event is not made (log entry 6). -/
def execEvaluationCompletion (s : State) : Answer :=
  match s.eval.running with
  | none => .next s
  | some c =>
    let s := { s with eval.running := none }
    if c.departed then .next s
    else
      match s.recordAt c.slot with
      | none => .next s
      | some r =>
        if r.eval = .running ∧ r.generation = c.snap.generation then
          .next (writeResult c.slot c.snap.result c.snap.threshold r s)
        else .next s

/-! ## The Flag Chain's commands (chapter 6) -/

/-- A flagged record is reviewed (R112, R113). -/
def Record.reviewed (r : Record) : Record :=
  ({ r with state := .reviewed, reviewedCauses := r.result.map (fun x => x.causes) } : Record).supersede

/-- A flagged record is reviewed, with the answer OK and its view (R113, R115, R118). -/
def reviewSlot (slot : Nat) (r : Record) (s : State) : Answer :=
  let s := setRecord slot r.reviewed s
  reply .ok (r.reviewed.view slot) (segUnflag r.segment { s with chain := s.chain.filter (· != slot) })

/-- FLAG READ taken (R116). -/
def commandFlagRead (args : List Byte) (s : State) : Answer :=
  let k := fieldAt args 0 2
  match s.chain[k]? with
  | none => reply .endOfList (beBytes 2 s.chain.length) s
  | some slot =>
    match s.recordAt slot with
    | none => .fault .chainEntryFree
    | some r => reply .ok (beBytes 2 s.chain.length ++ beBytes 2 k ++ r.view slot) s

/-- FLAG_READ. -/
def execFlagRead (tx : Tx) (s : State) : Answer := command 0x40#8 2 commandFlagRead tx s

/-- REVIEW taken (R113). -/
def commandReview (args : List Byte) (s : State) : Answer :=
  let slot := fieldAt args 0 2
  match s.named slot (BitVec.ofNat 32 (fieldAt args 2 4)) with
  | none => reply .notFound [] s
  | some r => if r.state = .flagged then reviewSlot slot r s else reply .notFlagged [] s

/-- REVIEW. -/
def execReview (tx : Tx) (s : State) : Answer := command 0x41#8 6 commandReview tx s

/-- REVIEW HEAD taken (R114). -/
def commandReviewHead (_ : List Byte) (s : State) : Answer :=
  match s.chain with
  | [] => reply .endOfList [] s
  | slot :: _ =>
    match s.recordAt slot with
    | none => .fault .chainEntryFree
    | some r => reviewSlot slot r s

/-- REVIEW_HEAD. -/
def execReviewHead (tx : Tx) (s : State) : Answer := command 0x42#8 0 commandReviewHead tx s

end Sys2Proof.Machine
end

