-- ==== Sys2Proof/Machine/RosterCommands.lean ====
section
/-! DEFINITION. The host's record and profile commands (R12, R13, R18 to R27). -/

namespace Sys2Proof.Machine

/-! ## Reading records -/

/-- LOOKUP taken (R20). -/
def commandLookup (args : List Byte) (s : State) : Answer :=
  match s.lookup (BitVec.ofNat 32 (fieldAt args 0 4)) with
  | none => reply .notFound [] s
  | some slot =>
    match s.recordAt slot with
    | none => reply .notFound [] s
    | some r => reply .ok (r.view slot) { s with port.cursor := some slot }

/-- LOOKUP. -/
def execLookup (tx : Tx) (s : State) : Answer := command 0x20#8 4 commandLookup tx s

/-- READ SLOT taken (R21). -/
def commandReadSlot (args : List Byte) (s : State) : Answer :=
  let slot := fieldAt args 0 2
  if slot < Config.slotCount then
    let s := { s with port.cursor := some slot }
    match s.recordAt slot with
    | none => reply .notFound [] s
    | some r => reply .ok (r.view slot) s
  else reply .notFound [] { s with port.cursor := none }

/-- READ_SLOT. -/
def execReadSlot (tx : Tx) (s : State) : Answer := command 0x21#8 2 commandReadSlot tx s

/-- The lowest-numbered occupied slot above the cursor, with its record (R22). -/
def State.slotAbove (s : State) (cursor : Option Nat) : Option (Nat × Record) :=
  s.roster.slots.find? (fun e => match cursor with | none => true | some c => decide (c < e.1))

/-- READ NEXT taken (R22). -/
def commandReadNext (_ : List Byte) (s : State) : Answer :=
  match s.slotAbove s.port.cursor with
  | none => reply .endOfList [] s
  | some e => reply .ok (e.2.view e.1) { s with port.cursor := some e.1 }

/-- READ_NEXT. -/
def execReadNext (tx : Tx) (s : State) : Answer := command 0x22#8 0 commandReadNext tx s

/-! ## Adding and editing records -/

/-- The route states in which the host adds and edits records (R23, R24). -/
def RouteState.editable : RouteState → Bool
  | .ready | .active => true
  | .empty | .loading | .loadFault | .closed => false

/-- INSERT taken (R23). -/
def commandInsert (args : List Byte) (s : State) : Answer :=
  if s.route.state.editable then
    match validate s (loadImageOf args) with
    | some why => reply why [] s
    | none => reply .ok (beBytes 2 s.freeSlot) (createRecord (loadImageOf args) s)
  else reply .wrongRouteState [] s

/-- INSERT. -/
def execInsert (tx : Tx) (s : State) : Answer := command 0x23#8 17 commandInsert tx s

/-- The record's fields after an AMEND with a selection byte and an image: bits 0 to 5 select kind, profile, segment,
baseline, baseline_age and band (R24, Table 12-3). -/
def amended (sel : Byte) (im : LoadImage) (r : Record) : Record :=
  { r with
    kind := if sel.getLsbD 0 then im.kind else r.kind
    profile := if sel.getLsbD 1 then im.profile else r.profile
    segment := if sel.getLsbD 2 then im.segment else r.segment
    baseline := if sel.getLsbD 3 then im.baseline else r.baseline
    baselineAge := if sel.getLsbD 4 then im.baselineAge else r.baselineAge
    bandLow := if sel.getLsbD 5 then im.bandLow else r.bandLow
    bandHigh := if sel.getLsbD 5 then im.bandHigh else r.bandHigh }

/-- Checks 3 to 8 of an AMEND on the named record (R24): none when they pass. -/
def amendRefusal (sel : Byte) (im : LoadImage) (r : Record) (s : State) : Option Status :=
  let r' := amended sel im r
  let modulus := modulusOf (s.store.live.profileAt r'.profile).digits
  if r.upload.isCarried then some .inFlight
  else if s.route.state = .active ∧ (sel.getLsbD 0 || sel.getLsbD 3 || sel.getLsbD 4) = true then some .lockedField
  else if sel.getLsbD 1 = true ∧ 15 < im.profile then some .badProfile
  else if sel.getLsbD 2 = true ∧ 1023 < im.segment then some .badSegment
  else if modulus ≤ r'.baseline ∨ (sel.getLsbD 4 = true ∧ 4095 < im.baselineAge)
      ∨ (r.reading.any (fun x => decide (modulus ≤ x.value))) = true then some .badBaseline
  else if sel.getLsbD 5 = true ∧ im.bandHigh < im.bandLow then some .badBand
  else none

/-- The effects of an AMEND that passes its checks (R25): the fields, the bump and the request where band or profile is
selected, and the move between segments (R129). -/
def amendRecord (slot : Nat) (sel : Byte) (im : LoadImage) (r : Record) (s : State) : State :=
  let bumps := sel.getLsbD 1 || sel.getLsbD 5
  let r' := if bumps then (amended sel im r).bump else amended sel im r
  let s := setRecord slot r' s
  let s := if bumps ∧ r.reading.isSome = true then requestEval slot s else s
  if r'.segment = r.segment then s else segGain r'.segment r (segLose r.segment r s)

/-- The record view of a slot as the state stands (R19). -/
def State.viewOf (s : State) (slot : Nat) : List Byte :=
  match s.recordAt slot with
  | none => []
  | some r => r.view slot

/-- AMEND taken (R24, R25). -/
def commandAmend (args : List Byte) (s : State) : Answer :=
  let slot := fieldAt args 0 2
  let sel := byteAt args 2
  let im := loadImageOf (args.drop 3)
  if s.route.state.editable then
    match s.named slot im.meterId with
    | none => reply .notFound [] s
    | some r =>
      match amendRefusal sel im r s with
      | some why => reply why [] s
      | none =>
        let s := amendRecord slot sel im r s
        reply .ok (s.viewOf slot) s
  else reply .wrongRouteState [] s

/-- AMEND. -/
def execAmend (tx : Tx) (s : State) : Answer := command 0x24#8 20 commandAmend tx s

/-! ## Retiring and re-evaluating -/

/-- RETIRE taken (R26). -/
def commandRetire (args : List Byte) (s : State) : Answer :=
  let slot := fieldAt args 0 2
  if s.route.state = .ready ∨ s.route.state = .active ∨ s.route.state = .closed then
    match s.named slot (BitVec.ofNat 32 (fieldAt args 2 4)) with
    | none => reply .notFound [] s
    | some r => if r.upload.isCarried then reply .inFlight [] s else reply .ok [] (retireSlot slot s)
  else reply .wrongRouteState [] s

/-- RETIRE. -/
def execRetire (tx : Tx) (s : State) : Answer := command 0x25#8 6 commandRetire tx s

/-- REEVALUATE taken (R27). -/
def commandReevaluate (args : List Byte) (s : State) : Answer :=
  let slot := fieldAt args 0 2
  match s.named slot (BitVec.ofNat 32 (fieldAt args 2 4)) with
  | none => reply .notFound [] s
  | some r =>
    if r.reading.isSome then
      reply .ok [r.bump.generation] (requestEval slot (setRecord slot r.bump.supersede s))
    else reply .noReading [] s

/-- REEVALUATE. -/
def execReevaluate (tx : Tx) (s : State) : Answer := command 0x26#8 6 commandReevaluate tx s

/-! ## The Profile Table -/

/-- A record of the profile would be left with a baseline or a reading at or above the modulus (R12). -/
def profileClash (n modulus : Nat) (r : Record) : Bool :=
  decide (r.profile = n)
    && (decide (modulus ≤ r.baseline) || r.reading.any (fun x => decide (modulus ≤ x.value)))

/-- PROFILE WRITE taken (R12). -/
def commandProfileWrite (args : List Byte) (s : State) : Answer :=
  let n := (byteAt args 0).toNat
  let p := profileOf (args.drop 1)
  if s.store.commit.isSome then reply .busy [] s
  else if h : n < 16 then
    if s.roster.slots.any (fun e => profileClash n (modulusOf p.digits) e.2) then reply .badBaseline [] s
    else reply .ok (byteAt args 0 :: p.bytes) { s with store.live.profiles := s.store.live.profiles.set n p h }
  else reply .badProfile [] s

/-- PROFILE_WRITE. -/
def execProfileWrite (tx : Tx) (s : State) : Answer := command 0x28#8 14 commandProfileWrite tx s

/-- PROFILE READ taken (R13). -/
def commandProfileRead (args : List Byte) (s : State) : Answer :=
  let n := (byteAt args 0).toNat
  if n < 16 then reply .ok (byteAt args 0 :: (s.store.live.profileAt n).bytes) s else reply .badProfile [] s

/-- PROFILE_READ. -/
def execProfileRead (tx : Tx) (s : State) : Answer := command 0x29#8 1 commandProfileRead tx s

end Sys2Proof.Machine
end

