-- ==== Sys2Proof/Machine/SegmentCommands.lean ====
section
/-! DEFINITION. The Segment Tracker's commands: windows, the apply, the table, the Revisit List (R133 to R145). -/

namespace Sys2Proof.Machine

/-! ## Staging and reading the windows -/

/-- The route states in which windows are staged (R133, R134). -/
def RouteState.stages : RouteState → Bool
  | .ready | .active => true
  | .empty | .loading | .loadFault | .closed => false

/-- WINDOW STAGE taken (R133): selector 0 writes start A, 1 start B, any other both; a start above 1023 is clamped. -/
def commandWindowStage (args : List Byte) (s : State) : Answer :=
  let sel := (byteAt args 0).toNat
  let start := min 1023 (fieldAt args 1 2)
  if s.route.state.stages then
    let w := s.seg.staged
    let w : Windows :=
      { w with
        startA := if sel = 1 then w.startA else start
        startB := if sel = 0 then w.startB else start }
    reply .ok w.bytes { s with seg.staged := w }
  else reply .wrongRouteState [] s

/-- WINDOW_STAGE. -/
def execWindowStage (tx : Tx) (s : State) : Answer := command 0x51#8 3 commandWindowStage tx s

/-- WINDOW DEPTH taken (R134): each value above 64 is clamped. -/
def commandWindowDepth (args : List Byte) (s : State) : Answer :=
  if s.route.state.stages then
    let w : Windows :=
      { s.seg.staged with depth := min 64 (byteAt args 0).toNat, split := min 64 (byteAt args 1).toNat }
    reply .ok w.bytes { s with seg.staged := w }
  else reply .wrongRouteState [] s

/-- WINDOW_DEPTH. -/
def execWindowDepth (tx : Tx) (s : State) : Answer := command 0x52#8 2 commandWindowDepth tx s

/-- WINDOW READ taken (R135): staged start A for selector 0, staged start B for every other selector. -/
def commandWindowRead (args : List Byte) (s : State) : Answer :=
  let w := s.seg.staged
  let start := if byteAt args 0 = 0#8 then w.startA else w.startB
  reply .ok
    (beBytes 2 start ++ beBytes 1 w.depth ++ beBytes 1 w.split ++ s.seg.applied.bytes
      ++ beBytes 1 s.seg.applied.coveredCount) s

/-- WINDOW_READ. -/
def execWindowRead (tx : Tx) (s : State) : Answer := command 0x53#8 1 commandWindowRead tx s

/-! ## The apply (R136 to R139) -/

/-- The state as an apply goes through the segments, with the numbers made ACTIVE, TRAILING and MISSED. -/
structure Applying where
  state    : State
  active   : Nat := 0
  trailing : Nat := 0
  missed   : Nat := 0

/-- A newly covered segment (R137). -/
def coverSeg (n : Nat) (a : Applying) : Applying :=
  let e := a.state.segAt n
  let s := setSeg n { e with visited := true } a.state
  match e.state with
  | .pending | .trailing | .missed | .waived => { a with state := activateSeg n s, active := a.active + 1 }
  | .vacant | .active | .complete | .closed => { a with state := s }

/-- A newly uncovered segment (R138). -/
def uncoverSeg (grace n : Nat) (a : Applying) : Applying :=
  let e := a.state.segAt n
  if e.state = .active then
    if grace = 0 then { a with state := missSeg n a.state, missed := a.missed + 1 }
    else
      { a with
        state := setSeg n { e with state := .trailing, deadline := some (a.state.route.clock + 2 * grace) } a.state
        trailing := a.trailing + 1 }
  else a

/-- One segment is settled by its coverage before and after (R136 to R139). -/
def applySeg (old new : Windows) (grace : Nat) (a : Applying) (n : Nat) : Applying :=
  match old.covers n, new.covers n with
  | false, true => coverSeg n a
  | true, false => uncoverSeg grace n a
  | true, true | false, false => a

/-- The staged windows are put in force and the segments settled in ascending order (R136). -/
def applyWindows (s : State) : Applying :=
  (List.range Config.segmentCount).foldl (applySeg s.seg.applied s.seg.staged s.store.live.grace)
    { state := { s with seg.applied := s.seg.staged } }

/-- WINDOW APPLY taken (R136). -/
def commandWindowApply (_ : List Byte) (s : State) : Answer :=
  if s.route.state = .active then
    let a := applyWindows s
    reply .ok
      (beBytes 1 s.seg.staged.coveredCount ++ beBytes 1 a.active ++ beBytes 1 a.trailing ++ beBytes 1 a.missed) a.state
  else reply .wrongRouteState [] s

/-- WINDOW_APPLY. -/
def execWindowApply (tx : Tx) (s : State) : Answer := command 0x54#8 0 commandWindowApply tx s

/-! ## Reading the table, the Revisit List, and the waiver -/

/-- The 14 bytes of a segment's entry as the state stands (R145). -/
def State.segView (s : State) (n : Nat) : List Byte := (s.segAt n).view n (s.seg.applied.covers n)

/-- SEGMENT READ taken (R145). -/
def commandSegmentRead (args : List Byte) (s : State) : Answer :=
  let n := fieldAt args 0 2
  if n < Config.segmentCount then reply .ok (s.segView n) s else reply .notFound [] s

/-- SEGMENT_READ. -/
def execSegmentRead (tx : Tx) (s : State) : Answer := command 0x50#8 2 commandSegmentRead tx s

/-- REVISIT READ taken (R143). -/
def commandRevisitRead (args : List Byte) (s : State) : Answer :=
  let k := fieldAt args 0 2
  match s.seg.revisit[k]? with
  | none => reply .endOfList (beBytes 2 s.seg.revisit.length) s
  | some n => reply .ok (beBytes 2 s.seg.revisit.length ++ beBytes 2 k ++ s.segView n) s

/-- REVISIT_READ. -/
def execRevisitRead (tx : Tx) (s : State) : Answer := command 0x55#8 2 commandRevisitRead tx s

/-- A MISSED segment is given up: WAIVED, and off the Revisit List (R144). -/
def waiveSeg (n : Nat) (s : State) : State := setSeg n { s.segAt n with state := .waived } (leaveRevisit n s)

/-- WAIVE taken (R144). -/
def commandWaive (args : List Byte) (s : State) : Answer :=
  let n := fieldAt args 0 2
  if n < Config.segmentCount then
    if (s.segAt n).state = .missed then
      let s := waiveSeg n s
      reply .ok (s.segView n) s
    else reply .notMissed [] s
  else reply .notFound [] s

/-- WAIVE. -/
def execWaive (tx : Tx) (s : State) : Answer := command 0x56#8 2 commandWaive tx s

end Sys2Proof.Machine
end

