-- ==== Sys2Proof/Machine/SettingsCommands.lean ====
section
/-! DEFINITION. The settings commands and the settings image (R201, R203, R204). -/

namespace Sys2Proof.Machine

/-- A channel whose enable goes off returns to GAP_WAIT with no word in assembly; otherwise it stays as it stands (R50). -/
def enableChange (was now : Bool) (c : Channel) : Channel :=
  if was && !now then { c with rx := .gapWait, word := {} } else c

/-- The channels after a write of the enables (R50). -/
def enableChanges (was now : Quad Bool) (q : Quad Channel) : Quad Channel :=
  ⟨enableChange was.q0 now.q0 q.q0, enableChange was.q1 now.q1 q.q1,
   enableChange was.q2 now.q2 q.q2, enableChange was.q3 now.q3 q.q3⟩

/-- SETTINGS WRITE taken (R203). -/
def commandSettingsWrite (args : List Byte) (s : State) : Answer :=
  if s.store.commit.isSome then reply .busy [] s
  else
    let live := s.store.live.write (byteAt args 0) (args.drop 1)
    reply .ok live.bytes
      { s with
        store.live := live
        channels := enableChanges s.store.live.enables live.enables s.channels }

/-- SETTINGS_WRITE. -/
def execSettingsWrite (tx : Tx) (s : State) : Answer := command 0x60#8 13 commandSettingsWrite tx s

/-- SETTINGS COMMIT taken (R204): the live settings are copied, the check computed over the copy, and the write starts. -/
def commandSettingsCommit (_ : List Byte) (s : State) : Answer :=
  if s.store.commit.isSome then reply .busy [] s
  else
    reply .ok []
      { s with store.commit := some { copy := s.store.live, check := imageCheck s.store.live.imageBody } }

/-- SETTINGS_COMMIT. -/
def execSettingsCommit (tx : Tx) (s : State) : Answer := command 0x61#8 0 commandSettingsCommit tx s

/-- SETTINGS_COMMIT_COMPLETION (R204): the image holds the copy, the zero fill and spare bytes and the check. With no commit
in progress the event is not made (log entry 6). -/
def execSettingsCommitCompletion (s : State) : Answer :=
  match s.store.commit with
  | none => .next s
  | some c =>
    .next { s with store.image := .whole (c.copy.imageBody ++ beBytes 2 c.check), store.commit := none }

/-- INDICATOR SET taken (R201). -/
def commandIndicatorSet (args : List Byte) (s : State) : Answer :=
  if h : (byteAt args 0).toNat < 4 then
    let q := s.store.live.sources.set ⟨(byteAt args 0).toNat, h⟩ (if byteAt args 1 = 0#8 then .off else .on)
    reply .ok (sourceBytes q) { s with store.live.sources := q }
  else reply .notFound [] s

/-- INDICATOR_SET. -/
def execIndicatorSet (tx : Tx) (s : State) : Answer := command 0x62#8 2 commandIndicatorSet tx s

end Sys2Proof.Machine
end

