-- ==== Sys2Proof/Machine/StartUp.lean ====
section
/-! DEFINITION. Power-on, the settings autoload, the reset line, the RESET command and the loss of supply (R195, R204 to R206). -/

namespace Sys2Proof.Machine

/-- The settings image after the supply has gone: a commit in progress leaves it part-written (R204). -/
def Store.imageUnpowered (t : Store) : Image :=
  match t.commit with
  | none => t.image
  | some _ => .partWritten

/-- Every block at its power-on contents; the image keeps its content without supply, and the levels of the pins and the
waiting commands are not the part's own (R202, R205). -/
def powerOnContents (power : Power) (s : State) : State :=
  { ({} : State) with
    power := power
    resetLow := s.resetLow
    dockPresent := s.dockPresent
    store := { ({} : Store) with image := s.store.imageUnpowered }
    draws := s.draws
    pending := s.pending }

/-- The live settings and the SETTINGS_DEFAULTED mark that the autoload gives (R205). -/
def autoloadStore (t : Store) : Store :=
  match t.image with
  | .whole bs =>
    if t.image.passes then { t with live := settingsOf bs, defaulted := false }
    else { t with live := {}, defaulted := true }
  | .partWritten => { t with live := {}, defaulted := true }

/-- POWER_ON (R205): every block takes its power-on contents and the autoload begins. On a part that has supply it stands
for an interruption of the supply (log entry 10). -/
def execPowerOn (s : State) : Answer := .next (powerOnContents .autoload s)

/-- AUTOLOAD_END (R205): the live settings are loaded or defaulted, and the part starts; with RESET_N low it stands as in a
held warm reset. Outside the autoload the event is not made (log entry 6). -/
def execAutoloadEnd (s : State) : Answer :=
  if s.power = .autoload then
    let s := { s with power := .running, store := autoloadStore s.store }
    .next (if s.resetLow then s else acquireIfPresent s)
  else .next s

/-- RESET_N_FALL (R206): a warm reset with cause RESET_LINE, and the hold; before the autoload has ended only the level
changes (R205). -/
def execResetNFall (s : State) : Answer :=
  if s.power = .running then .next { warmReset .resetLine s with resetLow := true }
  else .next { s with resetLow := true }

/-- RESET_N_RISE (R206): the hold ends, and the link becomes ACQUIRING if DOCK_PRESENT is high (R166). -/
def execResetNRise (s : State) : Answer :=
  let held := decide (s.power = .running) && s.resetLow
  let s := { s with resetLow := false }
  .next (if held then acquireIfPresent s else s)

/-- The RESET command's matter (R195): a warm reset without a hold, IND lines released until the next tenth (R199), the
link ACQUIRING at once if DOCK_PRESENT is high (R166). Its response is not kept. -/
def commandReset (s : State) : State :=
  acquireIfPresent { warmReset .resetCommand s with lines.indWait := true }

/-- RESET (R195). -/
def execReset (tx : Tx) (s : State) : Answer := command 0x0E#8 0 (fun _ s => .next (commandReset s)) tx s

/-- SUPPLY_FAILURE (R204): the part is without supply; the image keeps its content, or is left part-written by a commit in
progress. The rest of the state is lost and is shown as its power-on contents (log entry 11). -/
def execSupplyFailure (s : State) : Answer := .next (powerOnContents .off s)

end Sys2Proof.Machine
end

