-- ==== Sys2Proof/Machine/PortCommands.lean ====
section
/-! DEFINITION. The Command Port's own matters (chapter 10): response transactions, unknown codes, STATUS and READ CAUSES. -/

namespace Sys2Proof.Machine

/-! ## STATUS and READ CAUSES -/

/-- The flags byte of STATUS (Table 12-6). -/
def State.statusFlags (s : State) : Nat :=
  bitIf s.store.commit.isSome 0 + bitIf s.store.defaulted 1 + bitIf s.attnLow 2

/-- The 49 bytes of STATUS (R191, Table 12-6). -/
def State.statusBytes (s : State) : List Byte :=
  beBytes 1 s.route.state.code ++ beBytes 1 s.route.owner.code ++ beBytes 4 s.route.routeId.toNat
  ++ beBytes 2 s.route.count ++ beBytes 2 s.route.received ++ beBytes 2 s.route.rejects ++ beBytes 3 s.route.clock
  ++ beBytes 2 s.rosterCount
  ++ beBytes 2 s.eval.queue.length ++ beBytes 2 (slotCode (s.eval.running.map (fun c => c.slot)))
  ++ beBytes 2 s.chain.length ++ beBytes 2 s.seg.revisit.length
  ++ beBytes 1 s.link.state.code ++ beBytes 1 s.link.held.code ++ beBytes 2 s.link.errors
  ++ beBytes 1 s.upload.state.code ++ beBytes 2 (slotCode s.upload.cursor) ++ beBytes 1 s.upload.table.length
  ++ beBytes 2 s.upload.sent ++ beBytes 2 s.upload.retired ++ beBytes 2 s.upload.returned
  ++ beBytes 2 s.upload.timeouts ++ beBytes 2 s.upload.strays ++ beBytes 2 s.upload.ignored
  ++ beBytes 1 s.statusFlags ++ [s.port.causes] ++ [s.store.live.mask] ++ beBytes 1 s.port.resetCause.code

/-- STATUS taken (R191). -/
def commandStatus (_ : List Byte) (s : State) : Answer := reply .ok s.statusBytes s

/-- STATUS. -/
def execStatus (tx : Tx) (s : State) : Answer := command 0x01#8 0 commandStatus tx s

/-- READ CAUSES taken (R194). -/
def commandReadCauses (_ : List Byte) (s : State) : Answer :=
  reply .ok [s.port.causes, s.store.live.mask] { s with port.causes := 0#8 }

/-- READ_CAUSES. -/
def execReadCauses (tx : Tx) (s : State) : Answer := command 0x02#8 0 commandReadCauses tx s

/-! ## Response transactions (R189) -/

/-- What the buffer sends from the second byte of a response transaction on: status, length, data (R189). -/
def Port.responseBytes (p : Port) : List Byte :=
  match p.buffer with
  | none => [BitVec.ofNat 8 Status.none.code, 0#8]
  | some r => [BitVec.ofNat 8 r.status.code, BitVec.ofNat 8 r.data.length] ++ r.data

/-- The bytes MISO carries when `clocked` whole bytes follow the code byte: fill, then the response, then fill (R189). -/
def Port.misoBytes (p : Port) (clocked : Nat) : List Byte :=
  Config.fillByte ::
    ((p.responseBytes.take clocked) ++ List.replicate (clocked - p.responseBytes.length) Config.fillByte)

/-- RESPONSE (R186, R189): `clocked` whole bytes after the code byte. The buffer becomes EMPTY when the whole response was
clocked out. -/
def execResponse (clocked : Nat) (dropped : Bool) (s : State) : Answer :=
  if s.takes dropped then
    .next { s with
      port.miso := s.port.misoBytes clocked
      port.buffer := if s.port.responseBytes.length ≤ clocked then none else s.port.buffer }
  else .next s

/-! ## Command codes that name no command (R187) -/

/-- UNKNOWN_COMMAND (R187): answered with the code received. A code that does name a command, or RESPONSE, is taken as that
(log entry 15). -/
def execUnknownCommand (code : Byte) (tx : Tx) (s : State) : Answer :=
  match code.toNat with
  | 0x01 => execStatus tx s
  | 0x02 => execReadCauses tx s
  | 0x0E => execReset tx s
  | 0x10 => execLoadOpen tx s
  | 0x11 => execLoadRecord tx s
  | 0x12 => execLoadSeal tx s
  | 0x13 => execRejectRead tx s
  | 0x14 => execRouteBegin tx s
  | 0x15 => execRouteClose tx s
  | 0x16 => execRouteDiscard tx s
  | 0x20 => execLookup tx s
  | 0x21 => execReadSlot tx s
  | 0x22 => execReadNext tx s
  | 0x23 => execInsert tx s
  | 0x24 => execAmend tx s
  | 0x25 => execRetire tx s
  | 0x26 => execReevaluate tx s
  | 0x28 => execProfileWrite tx s
  | 0x29 => execProfileRead tx s
  | 0x30 => execChannelStats tx s
  | 0x40 => execFlagRead tx s
  | 0x41 => execReview tx s
  | 0x42 => execReviewHead tx s
  | 0x50 => execSegmentRead tx s
  | 0x51 => execWindowStage tx s
  | 0x52 => execWindowDepth tx s
  | 0x53 => execWindowRead tx s
  | 0x54 => execWindowApply tx s
  | 0x55 => execRevisitRead tx s
  | 0x56 => execWaive tx s
  | 0x60 => execSettingsWrite tx s
  | 0x61 => execSettingsCommit tx s
  | 0x62 => execIndicatorSet tx s
  | 0xF0 => execResponse tx.rest.length tx.dropped s
  | _ => if s.takes tx.dropped then reply .unknownCommand [code] (carryFill tx s) else .next s

end Sys2Proof.Machine
end

