-- ==== Sys2Proof/Machine/Timebase.lean ====
section
/-! DEFINITION. The timebase events and what runs out at them: the tenth (R157, R178, R199, R200), the route second (R41,
R140), the expiries, and the SYNC interval (R160). -/

namespace Sys2Proof.Machine

/-! ## The parts of a tenth -/

/-- The link counts liveness (R157). -/
def Link.counting (l : Link) : Bool := decide (l.state = .locked) || decide (l.state = .checking)

/-- The next tenth brings the liveness count to 2 (R157). -/
def State.livenessDue (s : State) : Bool := s.link.counting && decide (2 ≤ s.link.liveness + 1)

/-- The liveness part of a tenth (R157). -/
def tenthLiveness (s : State) : State :=
  if s.livenessDue then loseLock s
  else if s.link.counting then { s with link.liveness := s.link.liveness + 1 }
  else s

/-- The next tenth brings an entry's tenths to 0 (R178). -/
def Outstanding.due (o : Outstanding) : Bool := decide (o.tenths ≤ 1)

/-- An expiring entry's records return to IDLE and are counted returned, and the timeout is counted (R178). -/
def expireEntry (s : State) (o : Outstanding) : State :=
  let s := releaseSlots o.slots s
  { s with
    upload.returned := o.slots.foldl (fun n _ => satInc Config.countTop n) s.upload.returned
    upload.timeouts := satInc Config.countTop s.upload.timeouts }

/-- The acknowledgement part of a tenth: every entry counts down, and those that reach 0 expire in table order (R178). -/
def tenthBlocks (s : State) : State :=
  let s' := (s.upload.table.filter Outstanding.due).foldl expireEntry s
  { s' with
    upload.table := (s.upload.table.filter (fun o => !o.due)).map (fun o => { o with tenths := o.tenths - 1 }) }

/-- The pulse part of a tenth (R200). -/
def tenthPulse (s : State) : State := { s with lines.pulse := s.lines.pulse - 1 }

/-- Liveness and block parts of a tenth. Where both a lock loss and a block expiry fall due, their order is open (R183) and
is drawn from the free value (log entry 7). -/
def tenthLinkAndBlocks (s : State) : State :=
  if s.livenessDue && s.upload.table.any Outstanding.due then
    let s' := { s with draws := s.draws + 1 }
    if Config.blocksFirst s.draws then tenthLiveness (tenthBlocks s') else tenthBlocks (tenthLiveness s')
  else tenthBlocks (tenthLiveness s)

/-- TENTH: liveness (R157), acknowledgement tenths (R178), the pulse (R200) and the end of an IND release (R199), each with
what runs out at it, in the one event. -/
def execTenth (s : State) : Answer :=
  let s := tenthPulse (tenthLinkAndBlocks s)
  .next { s with lines.indWait := false }

/-- LIVENESS_EXPIRY (R157): the liveness part of the tenth that brings the count to 2, as a step of its own; not due, it is
not made (log entry 5). -/
def execLivenessExpiry (s : State) : Answer := .next (if s.livenessDue then loseLock s else s)

/-- BLOCK_EXPIRY (R178): the acknowledgement part, for one block, of the tenth that brings its tenths to 0, as a step of its
own; not due, it is not made (log entry 5). -/
def execBlockExpiry (block : Byte) (s : State) : Answer :=
  match s.upload.table.find? (fun o => o.block == block && o.due) with
  | none => .next s
  | some o =>
    let s' := expireEntry s o
    .next { s' with upload.table := s.upload.table.eraseP (fun o => o.block == block && o.due) }

/-- SEGMENT_PULSE_END (R200): the pulse part of the tenth that brings the pulse count to 0, as a step of its own; not due, it
is not made (log entry 5). -/
def execSegmentPulseEnd (s : State) : Answer := .next (if s.lines.pulse ≤ 1 then { s with lines.pulse := 0 } else s)

/-! ## The route second -/

/-- The route clock as the next counted route second brings it (R41). -/
def State.nextClock (s : State) : Nat := satInc Config.clockTop s.route.clock

/-- Route seconds are counted: the route is ACTIVE and RESET_N is not held low (R41). -/
def State.clockRuns (s : State) : Bool := s.awake && decide (s.route.state = .active)

/-- ROUTE_SECOND: the route clock (R41), and the expiry of every TRAILING segment whose deadline it reaches, in ascending
segment number, in the same event (R140). -/
def execRouteSecond (s : State) : Answer :=
  if s.clockRuns then
    let clock := s.nextClock
    .next ((s.seg.table.map (fun e => e.1)).foldl (fun s n => expireSeg clock n s) { s with route.clock := clock })
  else .next s

/-- SEGMENT_DEADLINE_EXPIRY (R140): the expiry of one TRAILING segment whose deadline the next counted route second reaches,
as a step of its own; not due, it is not made (log entry 5). -/
def execSegmentDeadlineExpiry (segment : Nat) (s : State) : Answer :=
  .next (if s.clockRuns then expireSeg s.nextClock segment s else s)

/-! ## The SYNC interval -/

/-- SYNC_INTERVAL_EXPIRY (R160): a part SYNC is offered in ACQUIRING, LOCKED and CHECKING. -/
def execSyncIntervalExpiry (s : State) : Answer :=
  .next (if s.link.state = .detached then s else offer (partSyncFrame s) s)

end Sys2Proof.Machine
end

