-- ==== Sys2Proof/Machine/Dispatch.lean ====
section
/-! DEFINITION. The meaning of every command: one arm for each constructor of `Instr`. -/

namespace Sys2Proof.Machine

/-- What a command does to everything but the queue. -/
def exec (i : Instr) (s : State) : Host.Outcome State Fault Refusal :=
  match i with
  | .powerOn => Sys2Proof.Machine.execPowerOn s
  | .autoloadEnd => Sys2Proof.Machine.execAutoloadEnd s
  | .resetNFall => Sys2Proof.Machine.execResetNFall s
  | .resetNRise => Sys2Proof.Machine.execResetNRise s
  | .tenth => Sys2Proof.Machine.execTenth s
  | .routeSecond => Sys2Proof.Machine.execRouteSecond s
  | .segmentDeadlineExpiry segment => Sys2Proof.Machine.execSegmentDeadlineExpiry segment s
  | .segmentPulseEnd => Sys2Proof.Machine.execSegmentPulseEnd s
  | .channelWordArrival ch bytes => Sys2Proof.Machine.execChannelWordArrival ch bytes s
  | .take => Sys2Proof.Machine.execTake s
  | .evaluationStart => Sys2Proof.Machine.execEvaluationStart s
  | .evaluationCompletion => Sys2Proof.Machine.execEvaluationCompletion s
  | .dockPresentRise => Sys2Proof.Machine.execDockPresentRise s
  | .dockPresentFall => Sys2Proof.Machine.execDockPresentFall s
  | .livenessExpiry => Sys2Proof.Machine.execLivenessExpiry s
  | .syncIntervalExpiry => Sys2Proof.Machine.execSyncIntervalExpiry s
  | .frameSend => Sys2Proof.Machine.execFrameSend s
  | .erroredFrame line => Sys2Proof.Machine.execErroredFrame line s
  | .unusableFrame typ payload => Sys2Proof.Machine.execUnusableFrame typ payload s
  | .sync => Sys2Proof.Machine.execSync s
  | .routeOpen payload => Sys2Proof.Machine.execRouteOpen payload s
  | .routeRecord payload => Sys2Proof.Machine.execRouteRecord payload s
  | .routeSeal => Sys2Proof.Machine.execRouteSeal s
  | .routeAbort => Sys2Proof.Machine.execRouteAbort s
  | .closeRoute => Sys2Proof.Machine.execCloseRoute s
  | .uploadRequest => Sys2Proof.Machine.execUploadRequest s
  | .uploadStop => Sys2Proof.Machine.execUploadStop s
  | .blockAck payload => Sys2Proof.Machine.execBlockAck payload s
  | .checkStart => Sys2Proof.Machine.execCheckStart s
  | .checkPattern payload => Sys2Proof.Machine.execCheckPattern payload s
  | .checkEnd => Sys2Proof.Machine.execCheckEnd s
  | .blockExpiry block => Sys2Proof.Machine.execBlockExpiry block s
  | .assembly => Sys2Proof.Machine.execAssembly s
  | .endOfPass => Sys2Proof.Machine.execEndOfPass s
  | .response clocked dropped => Sys2Proof.Machine.execResponse clocked dropped s
  | .unknownCommand code tx => Sys2Proof.Machine.execUnknownCommand code tx s
  | .status tx => Sys2Proof.Machine.execStatus tx s
  | .readCauses tx => Sys2Proof.Machine.execReadCauses tx s
  | .reset tx => Sys2Proof.Machine.execReset tx s
  | .lookup tx => Sys2Proof.Machine.execLookup tx s
  | .readSlot tx => Sys2Proof.Machine.execReadSlot tx s
  | .readNext tx => Sys2Proof.Machine.execReadNext tx s
  | .insert tx => Sys2Proof.Machine.execInsert tx s
  | .amend tx => Sys2Proof.Machine.execAmend tx s
  | .retire tx => Sys2Proof.Machine.execRetire tx s
  | .reevaluate tx => Sys2Proof.Machine.execReevaluate tx s
  | .profileWrite tx => Sys2Proof.Machine.execProfileWrite tx s
  | .profileRead tx => Sys2Proof.Machine.execProfileRead tx s
  | .loadOpen tx => Sys2Proof.Machine.execLoadOpen tx s
  | .loadRecord tx => Sys2Proof.Machine.execLoadRecord tx s
  | .loadSeal tx => Sys2Proof.Machine.execLoadSeal tx s
  | .rejectRead tx => Sys2Proof.Machine.execRejectRead tx s
  | .routeBegin tx => Sys2Proof.Machine.execRouteBegin tx s
  | .routeClose tx => Sys2Proof.Machine.execRouteClose tx s
  | .routeDiscard tx => Sys2Proof.Machine.execRouteDiscard tx s
  | .channelStats tx => Sys2Proof.Machine.execChannelStats tx s
  | .flagRead tx => Sys2Proof.Machine.execFlagRead tx s
  | .review tx => Sys2Proof.Machine.execReview tx s
  | .reviewHead tx => Sys2Proof.Machine.execReviewHead tx s
  | .segmentRead tx => Sys2Proof.Machine.execSegmentRead tx s
  | .windowStage tx => Sys2Proof.Machine.execWindowStage tx s
  | .windowDepth tx => Sys2Proof.Machine.execWindowDepth tx s
  | .windowRead tx => Sys2Proof.Machine.execWindowRead tx s
  | .windowApply tx => Sys2Proof.Machine.execWindowApply tx s
  | .revisitRead tx => Sys2Proof.Machine.execRevisitRead tx s
  | .waive tx => Sys2Proof.Machine.execWaive tx s
  | .settingsWrite tx => Sys2Proof.Machine.execSettingsWrite tx s
  | .settingsCommit tx => Sys2Proof.Machine.execSettingsCommit tx s
  | .settingsCommitCompletion => Sys2Proof.Machine.execSettingsCommitCompletion s
  | .indicatorSet tx => Sys2Proof.Machine.execIndicatorSet tx s
  | .wordEndGap ch => Sys2Proof.Machine.execWordEndGap ch s
  | .supplyFailure => Sys2Proof.Machine.execSupplyFailure s

end Sys2Proof.Machine
end

