-- ==== Sys2Proof/Safety.lean ====
section
/-! DEFINITION. What counts as a sound state and a safe command: the laws that the rules say always hold, each as a predicate
of the state, and the absence of a fault. Also the table of the host's commands that statements speak of together. -/

namespace Sys2Proof.Machine

/-! ## Safe commands -/

/-- The command completes: it answers a next state, and neither a fault nor a refusal. -/
def Completes (c : Instr) (s : State) : Prop := ∃ t, exec c s = .next t

/-! ## Taken commands of the host -/

/-- The Command Port takes transactions: the autoload has ended and RESET_N is high (R186). -/
def State.listens (s : State) : Prop := s.power = .running ∧ s.resetLow = false

/-- The state `t` with a response in the buffer, after a command transaction of the given argument bytes: MISO carried the fill
byte for the code, the length and each argument (R186, R188); the record of MISO is the model's own (log entry 13). -/
def answered (st : Status) (data args : List Byte) (t : State) : State :=
  { t with port.buffer := some ⟨st, data⟩, port.miso := List.replicate (args.length + 2) 0xFF#8 }

/-- A command of the host with exactly the given argument bytes completes, is answered with the status and the data, and
leaves `t` beside the answer. -/
def Answers (c : Tx → Instr) (args : List Byte) (s : State) (st : Status) (data : List Byte) (t : State) : Prop :=
  exec (c (txCarrying args)) s = .next (answered st data args t)

/-- A host command: its code, the argument length its rule requires, and its row. -/
structure HostRow where
  code : Byte
  len  : Nat
  row  : Tx → Instr

/-- The commands of the Command Port (Table 10-3) with their codes and argument lengths. -/
def hostRows : List HostRow :=
  [⟨0x01#8, 0, .status⟩, ⟨0x02#8, 0, .readCauses⟩, ⟨0x0E#8, 0, .reset⟩,
   ⟨0x10#8, 10, .loadOpen⟩, ⟨0x11#8, 17, .loadRecord⟩, ⟨0x12#8, 0, .loadSeal⟩, ⟨0x13#8, 1, .rejectRead⟩,
   ⟨0x14#8, 0, .routeBegin⟩, ⟨0x15#8, 0, .routeClose⟩, ⟨0x16#8, 0, .routeDiscard⟩,
   ⟨0x20#8, 4, .lookup⟩, ⟨0x21#8, 2, .readSlot⟩, ⟨0x22#8, 0, .readNext⟩, ⟨0x23#8, 17, .insert⟩,
   ⟨0x24#8, 20, .amend⟩, ⟨0x25#8, 6, .retire⟩, ⟨0x26#8, 6, .reevaluate⟩, ⟨0x28#8, 14, .profileWrite⟩,
   ⟨0x29#8, 1, .profileRead⟩, ⟨0x30#8, 2, .channelStats⟩, ⟨0x40#8, 2, .flagRead⟩, ⟨0x41#8, 6, .review⟩,
   ⟨0x42#8, 0, .reviewHead⟩, ⟨0x50#8, 2, .segmentRead⟩, ⟨0x51#8, 3, .windowStage⟩, ⟨0x52#8, 2, .windowDepth⟩,
   ⟨0x53#8, 1, .windowRead⟩, ⟨0x54#8, 0, .windowApply⟩, ⟨0x55#8, 2, .revisitRead⟩, ⟨0x56#8, 2, .waive⟩,
   ⟨0x60#8, 13, .settingsWrite⟩, ⟨0x61#8, 0, .settingsCommit⟩, ⟨0x62#8, 2, .indicatorSet⟩]

/-! ## The channel counters -/

/-- The value of one of the thirteen counters (R59). -/
def Stats.value (c : Stats) (k : Counter) : Nat :=
  match k with
  | .framesIn => c.framesIn
  | .crcFail => c.crcFail
  | .formatError => c.formatError
  | .overrun => c.overrun
  | .routeInactive => c.routeInactive
  | .unknown => c.unknown
  | .kindMismatch => c.kindMismatch
  | .invalidReading => c.invalidReading
  | .badReading => c.badReading
  | .stale => c.stale
  | .repeats => c.repeats
  | .conflict => c.conflict
  | .accepted => c.accepted

/-! ## What a loss of the lock and a warm reset do -/

/-- A route load in progress that the dock owns: what a loss of the lock and a warm reset discard (R38, R47). -/
def State.dockLoad (s : State) : Prop := s.route.state = .loading ∧ s.route.owner = .dock

/-- The part with no route: the roster cleared, Route Control at its power-on values, the Segment Tracker in its empty form,
chain and queue empty (R17, R38). -/
def State.bare (t : State) : Prop :=
  t.roster = {} ∧ t.route = {} ∧ t.seg = {} ∧ t.chain = [] ∧ t.eval.queue = []

/-- Every record of `s` with its upload state IDLE and its mark cleared (R180). -/
def State.slotsReleased (s : State) : List (Nat × Record) :=
  s.roster.slots.map (fun e => (e.1, { e.2 with upload := .idle }))

/-- A loss of the lock beyond the link and the Upload Engine's items: records released, a dock-owned load discarded, DOCK_CHANGE
raised, and nothing else changed (R38, R152, R157, R180). -/
def LockLost (s t : State) : Prop :=
  (s.dockLoad → t.bare)
  ∧ (¬ s.dockLoad →
      t.route = s.route ∧ t.seg = s.seg ∧ t.chain = s.chain ∧ t.eval = s.eval
      ∧ t.roster = { s.roster with slots := s.slotsReleased })
  ∧ t.port = { s.port with causes := s.port.causes ||| attDockChange }
  ∧ t.power = s.power ∧ t.resetLow = s.resetLow ∧ t.channels = s.channels ∧ t.rotation = s.rotation
  ∧ t.store = s.store ∧ t.pending = s.pending

/-- A warm reset with its cause, but for the lines and the link state that the kind of the reset decides: what each block of the
list of R195 does. -/
def WarmReset (cause : ResetCause) (s t : State) : Prop :=
  (s.dockLoad → t.bare)
  ∧ (¬ s.dockLoad →
      t.route = s.route ∧ t.chain = s.chain ∧ t.roster.index = s.roster.index
      ∧ t.seg = { s.seg with staged := s.seg.applied }
      ∧ t.roster.slots = s.roster.slots.map (fun e =>
          (e.1, { e.2 with upload := .idle, eval := if e.2.eval = .running then .queued else e.2.eval }))
      ∧ t.eval.queue = (s.roster.slots.filter (fun e =>
          decide (e.2.eval = .queued) || decide (e.2.eval = .running))).map (fun e => e.1))
  ∧ t.eval.running = none
  ∧ t.channels = Quad.all {} ∧ t.rotation = 3
  ∧ t.link.txQueue = [] ∧ t.link.sending = none ∧ t.link.receiver = .hunt ∧ t.link.held = .none ∧ t.link.errors = 0
  ∧ t.link.patterns = 0 ∧ t.link.syncRun = 0 ∧ t.link.liveness = 0
  ∧ t.upload = { state := .idle, cursor := some 0, nextBlock := s.upload.nextBlock, table := [], sent := 0, retired := 0,
                 returned := 0, timeouts := 0, strays := 0, ignored := 0 }
  ∧ t.port.buffer = none ∧ t.port.causes = 0#8 ∧ t.port.cursor = none ∧ t.port.resetCause = cause
  ∧ t.lines.pulse = 0
  ∧ t.power = s.power ∧ t.dockPresent = s.dockPresent ∧ t.store = s.store ∧ t.draws = s.draws ∧ t.pending = s.pending

/-! ## What a creation and a retirement do -/

/-- The state of a segment that gained an unread member (R127, by the order of R124). -/
def SegEntry.afterGain (e : SegEntry) (covered : Bool) : SegState :=
  match e.state with
  | .vacant | .complete => if covered then .active else if e.visited then .missed else .pending
  | .pending | .active | .trailing | .missed | .waived | .closed => e.state

/-- A record created from an image in the lowest free slot: its fields as Table 1-1 gives; its slot in the lowest empty way of the
bucket its hash gives, every other way kept, and found by a lookup; counted in its segment and the segment settled; no other
record and no other segment changed (R1, R7, R8, R15, R127, R128, R146). -/
def Created (im : LoadImage) (slot : Nat) (s t : State) : Prop :=
  let e := s.segAt im.segment
  let st := e.afterGain (s.seg.applied.covers im.segment)
  let missed := st = .missed ∧ e.state ≠ .missed
  let bucket := ((im.meterId ^^^ (im.meterId >>> 11) ^^^ (im.meterId >>> 22)).toNat) % 2048
  slot < 8192 ∧ s.recordAt slot = none ∧ (∀ m, m < slot → s.recordAt m ≠ none)
  ∧ t.recordAt slot = some {
      meterId := im.meterId, kind := im.kind, profile := im.profile, segment := im.segment, baseline := im.baseline,
      baselineAge := im.baselineAge, bandLow := im.bandLow, bandHigh := im.bandHigh, state := .expected, reading := none,
      latched := 0#7, hearCount := 0, signal := none, generation := 0#8, eval := .none, result := none,
      reviewedCauses := none, upload := .idle }
  ∧ (∀ n, n ≠ slot → t.recordAt n = s.recordAt n)
  ∧ (∃ way, way < 8 ∧ tableGet s.roster.index (8 * bucket + way) = none
      ∧ (∀ w, w < way → tableGet s.roster.index (8 * bucket + w) ≠ none)
      ∧ ∀ k, tableGet t.roster.index k = if k = 8 * bucket + way then some slot else tableGet s.roster.index k)
  ∧ t.lookup im.meterId = some slot
  ∧ t.segAt im.segment = { e with members := e.members + 1, state := st }
  ∧ (∀ n, n ≠ im.segment → t.segAt n = s.segAt n)
  ∧ t.seg.revisit = (if missed then s.seg.revisit ++ [im.segment] else s.seg.revisit)
  ∧ t.seg.staged = s.seg.staged ∧ t.seg.applied = s.seg.applied
  ∧ t.port.causes = (if missed then s.port.causes ||| attSegmentMissed else s.port.causes)

/-- A record retired: its slot free and its way empty, off the chain and the queue, a running computation of it marked departed;
its segment's counts reduced and the segment settled; in CLOSED the last retirement returns the route to EMPTY (R10, R16, R46,
R90, R115, R125, R126, R128, R182). -/
def Retired (slot : Nat) (r : Record) (s t : State) : Prop :=
  let e := s.segAt r.segment
  let vacated := e.state ≠ .closed ∧ e.members = 1
  let completed := r.state = .expected ∧ e.state ≠ .closed ∧ 1 < e.members ∧ e.read + 1 = e.members
  let last := s.route.state = .closed ∧ ∀ x ∈ s.roster.slots, x.1 = slot
  t.roster.slots = s.roster.slots.filter (fun x => x.1 != slot)
  ∧ t.roster.index = s.roster.index.filter (fun x => x.2 != slot)
  ∧ t.lookup r.meterId = none
  ∧ t.chain = s.chain.filter (fun n => n != slot)
  ∧ t.eval.queue = s.eval.queue.filter (fun n => n != slot)
  ∧ t.eval.running = s.eval.running.map (fun c => if c.slot = slot then { c with departed := true } else c)
  ∧ (last → t.route = {} ∧ t.seg = {}
      ∧ t.upload.cursor = (if s.upload.state = .passing then none else s.upload.cursor))
  ∧ (¬ last → t.route = s.route ∧ t.upload.cursor = s.upload.cursor
      ∧ t.segAt r.segment = { e with
          members := e.members - 1
          read := if r.state = .expected then e.read else e.read - 1
          flagged := if r.state = .flagged then e.flagged - 1 else e.flagged
          state := if vacated then .vacant else if completed then .complete else e.state
          deadline := if vacated ∨ completed then none else e.deadline }
      ∧ (∀ n, n ≠ r.segment → t.segAt n = s.segAt n)
      ∧ t.seg.revisit = (if vacated ∨ completed then s.seg.revisit.filter (fun n => n != r.segment) else s.seg.revisit)
      ∧ t.seg.staged = s.seg.staged ∧ t.seg.applied = s.seg.applied)
  ∧ t.port = { s.port with causes := if completed then s.port.causes ||| attSegmentComplete else s.port.causes }
  ∧ t.lines = { s.lines with pulse := if completed then 5 else s.lines.pulse }
  ∧ t.channels = s.channels ∧ t.rotation = s.rotation ∧ t.link = s.link ∧ t.store = s.store

/-! ## The dock's messages -/

/-- A valid frame was heard: the liveness count at 0 and the receiver in HUNT (R153, R154). -/
def State.heard (s : State) : State := { s with link.liveness := 0, link.receiver := .hunt }

/-- The messages that only LOCKED acts on, whatever well-formed payloads they carry (Table 8-3). -/
def ownedMessages (p10 p17 p2 : List Byte) : List Instr :=
  [.routeOpen p10, .routeRecord p17, .routeSeal, .routeAbort, .closeRoute, .uploadRequest, .uploadStop, .blockAck p2,
   .checkStart]

/-! ## The stores -/

/-- The sparse tables stand in their canonical form, within the numbers the part has (R1, R7, R122). -/
def State.tablesLaw (s : State) : Prop :=
  tableRising s.roster.slots = true ∧ (∀ e ∈ s.roster.slots, e.1 < 8192)
  ∧ tableRising s.roster.index = true ∧ (∀ e ∈ s.roster.index, e.1 < 16384)
  ∧ tableRising s.seg.table = true ∧ (∀ e ∈ s.seg.table, e.1 < 1024 ∧ e.2 ≠ {})

/-- No two occupied slots hold the same meter_id, and the Meter Index holds exactly one way per occupied slot, in the bucket
its hash gives (R10). -/
def State.indexLaw (s : State) : Prop :=
  (∀ e ∈ s.roster.slots, ∀ f ∈ s.roster.slots, e.2.meterId = f.2.meterId → e.1 = f.1)
  ∧ (∀ e ∈ s.roster.slots, (s.roster.index.filter (fun w => w.2 == e.1)).length = 1)
  ∧ (∀ w ∈ s.roster.index, (s.recordAt w.2).any (fun r => decide (w.1 / 8 = bucketOf r.meterId)) = true)

/-! ## The records -/

/-- The ranges of Table 1-1, for a record whose profile has the modulus `m` (R2). -/
def Record.inRange (m : Nat) (r : Record) : Prop :=
  r.meterId ≠ 0#32 ∧ r.meterId ≠ 0xFFFFFFFF#32 ∧ r.profile ≤ 15 ∧ r.segment ≤ 1023
  ∧ r.baseline < m ∧ r.baselineAge ≤ 4095 ∧ r.bandLow ≤ r.bandHigh ∧ r.bandHigh ≤ 65535 ∧ r.hearCount ≤ 255
  ∧ (∀ x ∈ r.reading, x.value < m ∧ x.tRead ≤ 16777215)
  ∧ (∀ g ∈ r.signal, g.best ≤ 255 ∧ g.smoothed ≤ 255)
  ∧ (∀ x ∈ r.result, x.delta ≤ 999999999 ∧ x.rate ≤ 65535 ∧ x.score ≤ 255)

/-- Which optional fields a record holds, by its states: a record in READ, FLAGGED or REVIEWED holds a reading, and one in
EXPECTED or NOT_READ holds none (R3); the signal, the result and the eval state go with the reading (R78, R81, R88); a
REVIEWED record holds reviewed causes (R112); a carried record is not EXPECTED (R170). -/
def Record.holdsByState (r : Record) : Prop :=
  (r.reading.isSome = true ↔ (r.state = .read ∨ r.state = .flagged ∨ r.state = .reviewed))
  ∧ (r.signal.isSome = r.reading.isSome)
  ∧ (r.eval = .none ↔ r.reading = none)
  ∧ (r.result.isSome = true → r.reading.isSome = true)
  ∧ (r.eval = .done → r.result.isSome = true)
  ∧ (r.state = .flagged ∨ r.state = .reviewed → r.result.isSome = true)
  ∧ (r.state = .reviewed → r.reviewedCauses.isSome = true)
  ∧ (r.upload.isCarried = true → r.state ≠ .expected)

/-- The record states a route state allows: none in EMPTY, EXPECTED alone before the begin, no NOT_READ before the close and
no EXPECTED after it (R3, R42). -/
def RouteState.allows (route : RouteState) (st : RecState) : Prop :=
  match route with
  | .empty => False
  | .loading | .ready | .loadFault => st = .expected
  | .active => st ≠ .notRead
  | .closed => st ≠ .expected

/-- Every record is in the ranges of Table 1-1, holds what its states say, and is in a state the route allows (R2, R3). -/
def State.recordLaw (s : State) : Prop :=
  ∀ e ∈ s.roster.slots,
    e.2.inRange (modulusOf (s.store.live.profileAt e.2.profile).digits) ∧ e.2.holdsByState ∧ s.route.state.allows e.2.state

/-! ## Evaluation Unit and Flag Chain -/

/-- The queue holds the records whose eval state is QUEUED, each exactly once, and no other slot (R87). -/
def State.queueLaw (s : State) : Prop :=
  s.eval.queue.Nodup
  ∧ (∀ n ∈ s.eval.queue, (s.recordAt n).any (fun r => decide (r.eval = .queued)) = true)
  ∧ (∀ e ∈ s.roster.slots, e.2.eval = .queued → e.1 ∈ s.eval.queue)

/-- A RUNNING record is the record of the running computation; one whose record has not departed finds it RUNNING or QUEUED
(R88, R90); the snapshot's values are in the ranges of Table 5-4 (R93). -/
def State.runningLaw (s : State) : Prop :=
  (∀ e ∈ s.roster.slots, e.2.eval = .running → s.eval.running.any (fun c => c.slot == e.1 && !c.departed) = true)
  ∧ (∀ c ∈ s.eval.running,
      (c.departed = false → (s.recordAt c.slot).any (fun r => decide (r.eval = .running) || decide (r.eval = .queued)) = true)
      ∧ 4 ≤ c.snap.digits ∧ c.snap.digits ≤ 9
      ∧ c.snap.value < modulusOf c.snap.digits ∧ c.snap.baseline < modulusOf c.snap.digits)

/-- When the eval state is DONE, the record's result was computed from its current inputs with some version of its profile;
while it is RUNNING, the snapshot holds its current inputs (R88). -/
def State.freshLaw (s : State) : Prop :=
  ∀ e ∈ s.roster.slots, ∀ x, e.2.reading = some x →
    (e.2.eval = .done → ∃ p : Profile, e.2.result = some (snapshotOf e.2 x p).result)
    ∧ (e.2.eval = .running → ∀ c, s.eval.running = some c → ∃ p : Profile, c.snap = snapshotOf e.2 x p)

/-- The chain holds each slot at most once, and a record is on it exactly when its state is FLAGGED (R107). -/
def State.chainLaw (s : State) : Prop :=
  s.chain.Nodup
  ∧ (∀ n ∈ s.chain, (s.recordAt n).any (fun r => decide (r.state = .flagged)) = true)
  ∧ (∀ e ∈ s.roster.slots, e.2.state = .flagged → e.1 ∈ s.chain)

/-! ## Route Control -/

/-- Route Control's items in their ranges (R28): power-on values in EMPTY, an owner outside it, a Reject List of as many
entries as rejects up to 64 (R34), and a clock that stands at 0 outside ACTIVE and CLOSED. -/
def State.routeLaw (s : State) : Prop :=
  (s.route.state = .empty → s.route = {})
  ∧ (s.route.owner = .none ↔ s.route.state = .empty)
  ∧ (s.route.state ≠ .empty → 1 ≤ s.route.count) ∧ s.route.count ≤ 8192
  ∧ s.route.received ≤ 65535 ∧ s.route.rejects ≤ 65535
  ∧ s.route.rejectList.length = min 64 s.route.rejects
  ∧ s.route.clock ≤ 16777215
  ∧ (s.route.state ≠ .active → s.route.state ≠ .closed → s.route.clock = 0)

/-- In EMPTY the roster, the index, the chain, the Revisit List, the queue and the Outstanding Table are empty (Table 2-1),
and the Segment Table is in its empty form (R122). -/
def State.emptyLaw (s : State) : Prop :=
  s.route.state = .empty →
    s.roster = {} ∧ s.chain = [] ∧ s.eval.queue = [] ∧ s.upload.table = [] ∧ s.seg = {}

/-! ## Segment Tracker -/

/-- How many records that name segment `n` satisfy `p`. -/
def State.countNaming (s : State) (n : Nat) (p : Record → Bool) : Nat :=
  (s.roster.slots.filter (fun e => decide (e.2.segment = n) && p e.2)).length

/-- The counts of every segment are those of the records that name it (R123). -/
def State.segCountLaw (s : State) : Prop :=
  ∀ n, n < 1024 →
    (s.segAt n).members = s.countNaming n (fun _ => true)
    ∧ (s.segAt n).read = s.countNaming n (fun r => decide (r.state ≠ .expected))
    ∧ (s.segAt n).flagged = s.countNaming n (fun r => decide (r.state = .flagged))

/-- What Table 7-3 says of an entry in its state, outside CLOSED. -/
def SegEntry.fits (e : SegEntry) (covered : Bool) : Prop :=
  match e.state with
  | .vacant => e.members = 0
  | .pending => e.read < e.members ∧ covered = false ∧ e.visited = false
  | .active => e.read < e.members ∧ covered = true
  | .trailing | .missed | .waived => e.read < e.members ∧ covered = false ∧ e.visited = true
  | .complete => 0 < e.members ∧ e.read = e.members
  | .closed => False

/-- Every segment fits its state (R124, Table 7-3), a deadline is present exactly in TRAILING, the covered segments are
visited, and in a CLOSED route every segment is CLOSED, or VACANT without members (R148). -/
def State.segStateLaw (s : State) : Prop :=
  ∀ n, n < 1024 →
    (s.route.state ≠ .closed → (s.segAt n).fits (s.seg.applied.covers n))
    ∧ (s.route.state = .closed →
        (s.segAt n).state = .closed ∨ ((s.segAt n).state = .vacant ∧ (s.segAt n).members = 0))
    ∧ ((s.segAt n).deadline.isSome = true ↔ (s.segAt n).state = .trailing)
    ∧ (s.seg.applied.covers n = true → (s.segAt n).visited = true)

/-- A segment is on the Revisit List exactly when its state is MISSED, and the list holds none twice (R142). -/
def State.revisitLaw (s : State) : Prop :=
  s.seg.revisit.Nodup
  ∧ (∀ n ∈ s.seg.revisit, n < 1024 ∧ (s.segAt n).state = .missed)
  ∧ (∀ n, n < 1024 → (s.segAt n).state = .missed → n ∈ s.seg.revisit)

/-- A set of window values is in its ranges (R131). -/
def Windows.inRange (w : Windows) : Prop := w.startA ≤ 1023 ∧ w.startB ≤ 1023 ∧ w.depth ≤ 64 ∧ w.split ≤ 64

/-- Both sets are in range; the applied windows are zero outside ACTIVE, and no segment is visited before the begin (R147,
R148). -/
def State.windowLaw (s : State) : Prop :=
  s.seg.staged.inRange ∧ s.seg.applied.inRange
  ∧ (s.route.state ≠ .active → s.seg.applied = {})
  ∧ (s.route.state ≠ .active → s.route.state ≠ .ready → s.seg.staged = {})
  ∧ (s.route.state ≠ .active → s.route.state ≠ .closed → ∀ e ∈ s.seg.table, e.2.visited = false)

/-! ## Dock Link and Upload Engine -/

/-- The frames of a type that wait in the transmit queue. -/
def Link.waiting (l : Link) (typ : Byte) : Nat := (l.txQueue.filter (fun f => f.typ == typ)).length

/-- The transmit queue: at most four LOAD STATUS and four UPLOAD BLOCK frames, one of each other kind, twelve in all; no
other kind of frame, and none longer than an UPLOAD BLOCK of sixteen records (R159, 12.3). -/
def State.txLaw (s : State) : Prop :=
  (∀ f ∈ s.link.txQueue,
    f.typ ∈ [typPartSync, typUnitStatus, typLoadStatus, typUploadBlock, typUploadEnd, typCheckResult]
    ∧ f.payload.length ≤ 454)
  ∧ s.link.waiting typPartSync ≤ 1 ∧ s.link.waiting typUnitStatus ≤ 1 ∧ s.link.waiting typLoadStatus ≤ 4
  ∧ s.link.waiting typUploadBlock ≤ 4 ∧ s.link.waiting typUploadEnd ≤ 1 ∧ s.link.waiting typCheckResult ≤ 1
  ∧ s.link.txQueue.length ≤ 12

/-- The receiver holds no more than an unfinished frame (R153). -/
def Receiver.unfinished : Receiver → Prop
  | .hunt => True
  | .inFrame g _ => g.length < 3 ∨ (gatheredLength g ≤ 1023 ∧ g.length < 3 + gatheredLength g + 4)

/-- The link (R151, R152): what DETACHED leaves, the ranges of its counts, and when it is DETACHED: exactly while the part has
not started, RESET_N is low or no dock is mated (R166). -/
def State.linkLaw (s : State) : Prop :=
  (s.link.state = .detached ↔ ¬ (s.awake = true ∧ s.dockPresent = true))
  ∧ (s.link.state = .detached →
      s.link.txQueue = [] ∧ s.link.sending = none ∧ s.link.receiver = .hunt
      ∧ s.link.held = .none ∧ s.link.errors = 0 ∧ s.link.patterns = 0)
  ∧ s.link.syncRun ≤ 3 ∧ s.link.liveness ≤ 2
  ∧ (s.link.state = .locked ∨ s.link.state = .checking → s.link.syncRun = 0 ∧ s.link.liveness ≤ 1)
  ∧ (s.link.state = .checking → s.link.held = .none)
  ∧ s.link.errors ≤ 65535 ∧ s.link.patterns ≤ 65535
  ∧ s.link.receiver.unfinished

/-- Strictly ascending slot numbers. -/
def ascending : List Nat → Bool
  | [] => true
  | [_] => true
  | a :: b :: t => decide (a < b) && ascending (b :: t)

/-- The Outstanding Table: at most four blocks of one to sixteen records in ascending slots, and every CARRIED record carried
by exactly one of them, with its number (R167, R174); empty in IDLE (R168) and while the link is not LOCKED (R180, R181). -/
def State.uploadLaw (s : State) : Prop :=
  s.upload.table.length ≤ 4
  ∧ (s.upload.table.flatMap (fun o => o.slots)).Nodup
  ∧ (∀ o ∈ s.upload.table,
      o.slots ≠ [] ∧ o.slots.length ≤ 16 ∧ ascending o.slots = true ∧ 1 ≤ o.tenths ∧ o.tenths ≤ 127
      ∧ ∀ n ∈ o.slots, (s.recordAt n).any (fun r => r.upload.isCarried && r.upload.blockCode == o.block) = true)
  ∧ (∀ e ∈ s.roster.slots, e.2.upload.isCarried = true → ∃ o ∈ s.upload.table, e.1 ∈ o.slots)
  ∧ (s.upload.state = .idle → s.upload.table = [])
  ∧ (s.upload.table ≠ [] → s.link.state = .locked)
  ∧ (s.upload.state ≠ .idle → s.link.state = .locked ∨ s.link.state = .checking)
  ∧ (∀ n ∈ s.upload.cursor, n < 8192)
  ∧ s.upload.sent ≤ 65535 ∧ s.upload.retired ≤ 65535 ∧ s.upload.returned ≤ 65535
  ∧ s.upload.timeouts ≤ 65535 ∧ s.upload.strays ≤ 65535 ∧ s.upload.ignored ≤ 65535

/-! ## Channels, settings, port and lines -/

/-- Every counter holds at 65535 (R59). -/
def Stats.inRange (c : Stats) : Prop :=
  c.framesIn ≤ 65535 ∧ c.crcFail ≤ 65535 ∧ c.formatError ≤ 65535 ∧ c.overrun ≤ 65535 ∧ c.routeInactive ≤ 65535
  ∧ c.unknown ≤ 65535 ∧ c.kindMismatch ≤ 65535 ∧ c.invalidReading ≤ 65535 ∧ c.badReading ≤ 65535 ∧ c.stale ≤ 65535
  ∧ c.repeats ≤ 65535 ∧ c.conflict ≤ 65535 ∧ c.accepted ≤ 65535

/-- A channel (R48): a FIFO of 0 to 8 words, each of 14 bytes with the format code and a matching CRC (R52, R55); a word in
assembly with its count and the bytes kept (R49); counters in range. -/
def Channel.inRange (c : Channel) : Prop :=
  c.fifo.length ≤ 8
  ∧ (∀ w ∈ c.fifo, w.length = 14 ∧ bitsOf (byteAt w 0) 7 4 = 0xA ∧ airCrcMatches w = true)
  ∧ c.word.count ≤ 15 ∧ c.word.bytes.length = min 14 c.word.count
  ∧ (c.rx = .gapWait → c.word = {})
  ∧ c.stats.inRange

/-- Every channel is in its ranges, and one that is disabled stands in GAP_WAIT (R48, R50). -/
def State.channelLaw (s : State) : Prop :=
  ∀ ch : Fin 4, (s.channels.get ch).inRange
    ∧ (s.store.live.enables.get ch = false → (s.channels.get ch).rx = .gapWait)

/-- A profile is in the ranges of R11. -/
def Profile.inRange (p : Profile) : Prop :=
  4 ≤ p.digits ∧ p.digits ≤ 9 ∧ p.threshold ≤ 255 ∧ p.smoothing ≤ 31
  ∧ p.weights.length = 10 ∧ (∀ w ∈ p.weights, w ≤ 255)

/-- Settings are in the ranges of Table 11-1. -/
def Settings.inRange (t : Settings) : Prop :=
  t.grace ≤ 127 ∧ 1 ≤ t.timeout ∧ t.timeout ≤ 127 ∧ (∀ p ∈ t.profiles.toList, p.inRange)

/-- The live settings and a copy being committed are in range, the copy's check is computed over it (R198, R204), and the
image has 256 bytes unless a supply failure left it part-written (R202). -/
def State.settingsLaw (s : State) : Prop :=
  s.store.live.inRange
  ∧ (∀ c ∈ s.store.commit, c.copy.inRange ∧ c.check = imageCheck c.copy.imageBody)
  ∧ (match s.store.image with
     | .whole bs => bs.length = 256
     | .partWritten => True)

/-- The READ NEXT cursor names a slot, a held response has at most 255 data bytes (R188), and the pulse count is at most 5
(R200). -/
def State.portLaw (s : State) : Prop :=
  (∀ n ∈ s.port.cursor, n < 8192)
  ∧ (∀ r ∈ s.port.buffer, r.data.length ≤ 255)
  ∧ s.lines.pulse ≤ 5

/-- Until the autoload ends, and without supply, every block stands at its power-on contents (R205). The live settings and the
record of MISO before the autoload ends, and all contents without supply, are the model's choice (log entries 4, 11, 13). -/
def State.powerLaw (s : State) : Prop := s.power ≠ .running → powerOnContents s.power s = s

/-- While RESET_N is low the channels are empty and deaf, no computation runs, and the Command Port's buffer and pending set
are empty (R51, R105, R193, R196). -/
def State.holdLaw (s : State) : Prop :=
  s.resetLow = true →
    s.channels = Quad.all {} ∧ s.eval.running = none ∧ s.port.buffer = none ∧ s.port.causes = 0#8

/-- All the laws together. -/
structure State.Laws (s : State) : Prop where
  tables   : s.tablesLaw
  index    : s.indexLaw
  record   : s.recordLaw
  queue    : s.queueLaw
  running  : s.runningLaw
  fresh    : s.freshLaw
  chain    : s.chainLaw
  route    : s.routeLaw
  empty    : s.emptyLaw
  segCount : s.segCountLaw
  segState : s.segStateLaw
  revisit  : s.revisitLaw
  window   : s.windowLaw
  tx       : s.txLaw
  link     : s.linkLaw
  upload   : s.uploadLaw
  channel  : s.channelLaw
  settings : s.settingsLaw
  port     : s.portLaw
  power    : s.powerLaw
  hold     : s.holdLaw

end Sys2Proof.Machine
end

