-- ==== Sys2Proof/Certificates/Slice0/Obligations.lean ====
section
/-! DEFINITION. The statements for the provers, from the numbered rules of the spec. -/

open Sys2Proof Sys2Proof.Machine

/-! ## The machine as a whole -/

/-- A step is the command at the front of the queue, run on the state with the queue's rest; the empty queue idles (log
entry 1, the model's choice). -/
def Obligations.StepRunsTheFrontCommand : Prop :=
  (∀ (c : Instr) (rest : List Instr) (s : State),
    step { s with pending := c :: rest } = exec c { s with pending := rest })
  ∧ (∀ s : State, s.pending = [] → step s = .next s)

/-- The part right after power-on holds the power-on values of R28, R48, R65, R87, R107, R122, R131, R151, R167, Table 10-1 and
R200. -/
def Obligations.ResetHoldsPowerOnValues : Prop :=
  State.reset.roster.slots = [] ∧ State.reset.roster.index = []
  ∧ State.reset.route.state = .empty ∧ State.reset.route.owner = .none ∧ State.reset.route.routeId = 0#32
  ∧ State.reset.route.count = 0 ∧ State.reset.route.check = 0#32 ∧ State.reset.route.received = 0
  ∧ State.reset.route.rejects = 0 ∧ State.reset.route.running = 0xFFFFFFFF#32 ∧ State.reset.route.rejectList = []
  ∧ State.reset.route.clock = 0
  ∧ (∀ ch : Fin 4, State.reset.channels.get ch
      = { rx := .gapWait, word := { count := 0, fault := false, bytes := [] }, fifo := [],
          stats := { framesIn := 0, crcFail := 0, formatError := 0, overrun := 0, routeInactive := 0, unknown := 0,
                     kindMismatch := 0, invalidReading := 0, badReading := 0, stale := 0, repeats := 0, conflict := 0,
                     accepted := 0 } })
  ∧ State.reset.rotation = 3
  ∧ State.reset.eval.running = none ∧ State.reset.eval.queue = []
  ∧ State.reset.chain = []
  ∧ (∀ n, State.reset.segAt n
      = { state := .vacant, members := 0, read := 0, flagged := 0, visited := false, deadline := none })
  ∧ State.reset.seg.staged = { startA := 0, startB := 0, depth := 0, split := 0 }
  ∧ State.reset.seg.applied = { startA := 0, startB := 0, depth := 0, split := 0 }
  ∧ State.reset.seg.revisit = []
  ∧ State.reset.link.state = .detached ∧ State.reset.link.syncRun = 0 ∧ State.reset.link.liveness = 0
  ∧ State.reset.link.receiver = .hunt ∧ State.reset.link.txQueue = [] ∧ State.reset.link.sending = none
  ∧ State.reset.link.held = .none ∧ State.reset.link.errors = 0 ∧ State.reset.link.patterns = 0
  ∧ State.reset.upload.state = .idle ∧ State.reset.upload.cursor = some 0 ∧ State.reset.upload.nextBlock = 0#8
  ∧ State.reset.upload.table = [] ∧ State.reset.upload.sent = 0 ∧ State.reset.upload.retired = 0
  ∧ State.reset.upload.returned = 0 ∧ State.reset.upload.timeouts = 0 ∧ State.reset.upload.strays = 0
  ∧ State.reset.upload.ignored = 0
  ∧ State.reset.port.buffer = none ∧ State.reset.port.cursor = none ∧ State.reset.port.causes = 0#8
  ∧ State.reset.port.resetCause = .powerOn
  ∧ State.reset.store.commit = none ∧ State.reset.lines.pulse = 0

/-! ## The laws that every step keeps -/

/-- The laws hold right after power-on. State.reset itself is the model's choice (log entry 2); the part of the power law that has
the live settings at their defaults and no record of MISO before the autoload ends is too (log entries 4, 13). -/
def Obligations.LawsHoldAtReset : Prop := State.reset.Laws

/-- In a state that keeps the laws every command completes: no fault and no refusal is reached. An event of the part whose
conditions do not hold completes with nothing changed, and the three commands that could fault do so in no lawful state: the
model's choices (log entries 6, 17). -/
def Obligations.LawsNeverFault : Prop := ∀ (c : Instr) (s : State), s.Laws → Completes c s

/-- Every step keeps the canonical stores; no two occupied slots with one meter_id, and exactly one way per occupied slot,
in its bucket; and every record in its ranges, holding what its states say, in a state the route allows (R1, R2, R3, R7,
R10). -/
def Obligations.StepKeepsTheRoster : Prop :=
  ∀ s t : State, s.Laws → step s = .next t →
    t.tablesLaw ∧ t.indexLaw ∧ t.recordLaw

/-- Every step keeps the Evaluation Queue the list of the QUEUED records, each once, the running computation that of the
RUNNING record, and the Flag Chain the list of the FLAGGED records, each once (R87, R88, R107). -/
def Obligations.StepKeepsQueueAndChain : Prop :=
  ∀ s t : State, s.Laws → step s = .next t →
    t.queueLaw ∧ t.runningLaw ∧ t.chainLaw

/-- Every step keeps this: a DONE record's result was computed from its current inputs, and a RUNNING record's snapshot
holds them (R88). -/
def Obligations.StepKeepsResultsFresh : Prop :=
  ∀ s t : State, s.Laws → step s = .next t →
    t.freshLaw

/-- Every step keeps Route Control's items in range, the part bare in EMPTY, and the windows zero outside ACTIVE (R28, Table
2-1, R131, R147, R148). -/
def Obligations.StepKeepsRoute : Prop :=
  ∀ s t : State, s.Laws → step s = .next t →
    t.routeLaw ∧ t.emptyLaw ∧ t.windowLaw

/-- Every step keeps the three counts of every segment those of the records that name it, every segment in a state that its
counts, coverage and marks fit, and the Revisit List that of the MISSED segments, each once (R123, R124, R142). -/
def Obligations.StepKeepsSegments : Prop :=
  ∀ s t : State, s.Laws → step s = .next t →
    t.segCountLaw ∧ t.segStateLaw ∧ t.revisitLaw

/-- Every step keeps the transmit queue within its places, the link's items as its state says, at most four outstanding
blocks, and every CARRIED record carried by exactly one of them (R151, R152, R159, R167, R174). -/
def Obligations.StepKeepsLinkAndBlocks : Prop :=
  ∀ s t : State, s.Laws → step s = .next t →
    t.txLaw ∧ t.linkLaw ∧ t.uploadLaw

/-- Every step keeps the channels in range (FIFOs of at most 8 good words, counters at most 65535), the settings, the port,
the pulse count and the power-on contents within their rules, and what a held reset leaves (R48, R55, R59, R198, R188, R200,
R205, R206). The power law is in part the model's choice: the live settings before the autoload ends (log entry 4), the contents
of a part without supply (log entry 11), the record of MISO (log entry 13). -/
def Obligations.StepKeepsChannelsAndPort : Prop :=
  ∀ s t : State, s.Laws → step s = .next t →
    t.channelLaw ∧ t.holdLaw ∧ t.settingsLaw ∧ t.portLaw ∧ t.powerLaw

/-- HEADLINE. Every step keeps every law of the part. The power law among them is in part the model's choice (log entries 4, 11,
13). -/
def Obligations.StepKeepsAllLaws : Prop := ∀ s t : State, s.Laws → step s = .next t → t.Laws

/-! ## Start, supply and reset -/

/-- POWER_ON puts every block at its power-on contents with the autoload in progress, and SUPPLY_FAILURE leaves the part
without supply; the image keeps its content, or is left part-written by a commit in progress (R204, R205; log entries 10,
11). Before the autoload ends the live settings stand at their defaults with SETTINGS_DEFAULTED clear, and no bytes of MISO
are recorded: the model's choice (log entries 4, 13). AUTOLOAD_END: with a passing image each live setting takes its value from it, brought into range; with a failing one
each takes its default and SETTINGS_DEFAULTED is set; the link becomes ACQUIRING if DOCK_PRESENT is high, unless RESET_N is
low (R205, R166). Outside the autoload nothing changes (log entry 6). -/
def Obligations.PartStartsAndLosesSupply : Prop :=
  (∀ s : State,
     let image := match s.store.commit with
       | none => s.store.image
       | some _ => .partWritten
     exec .powerOn s
       = .next { ({} : State) with
           power := .autoload, resetLow := s.resetLow, dockPresent := s.dockPresent,
           store := { ({} : Store) with image := image }, draws := s.draws, pending := s.pending }
     ∧ exec .supplyFailure s
       = .next { ({} : State) with
           power := .off, resetLow := s.resetLow, dockPresent := s.dockPresent,
           store := { ({} : Store) with image := image }, draws := s.draws, pending := s.pending })
  ∧ (∀ s : State,
       (s.power ≠ .autoload → exec .autoloadEnd s = .next s)
       ∧ (s.power = .autoload →
           let link := if s.dockPresent = true ∧ s.resetLow = false
             then { s.link with state := .acquiring, syncRun := 0, receiver := .hunt } else s.link
           (∀ bs, s.store.image = .whole bs → s.store.image.passes = true →
             exec .autoloadEnd s
               = .next { s with power := .running, link := link,
                                store := { s.store with live := settingsOf bs, defaulted := false } })
           ∧ (s.store.image.passes = false →
             exec .autoloadEnd s
               = .next { s with power := .running, link := link,
                                store := { s.store with
                                  live := { unit := 0#32, mask := 0xFF#8, sources := Quad.all .off, grace := 15, timeout := 20,
                                            enables := Quad.all true,
                                            profiles := Vector.replicate 16
                                              { digits := 6, threshold := 0, smoothing := 7,
                                                weights := [0, 0, 0, 0, 0, 0, 0, 0, 0, 0] } },
                                  defaulted := true } })))

/-- RESET_N_FALL on a started part is a warm reset with cause RESET_LINE, the link DETACHED, an IND release of a RESET
command left as it stands (log entry 18) and so the record of MISO (log entry 13); before the start only the level of the line changes. RESET_N_RISE ends the hold:
the link becomes ACQUIRING if DOCK_PRESENT is high; where no hold stands only the level changes (R206, R205, R166, R195). -/
def Obligations.ResetLineWarmResets : Prop :=
  (∀ s : State,
     (s.power ≠ .running → exec .resetNFall s = .next { s with resetLow := true })
     ∧ (s.Laws → s.power = .running →
         ∃ t, exec .resetNFall s = .next t ∧ WarmReset .resetLine s t ∧ t.resetLow = true
           ∧ t.link.state = .detached ∧ t.lines.indWait = s.lines.indWait ∧ t.port.miso = s.port.miso))
  ∧ (∀ s : State,
       (s.power = .running → s.resetLow = true →
         exec .resetNRise s
           = .next { s with
               resetLow := false,
               link := if s.dockPresent then { s.link with state := .acquiring, syncRun := 0, receiver := .hunt } else s.link })
       ∧ (s.power ≠ .running ∨ s.resetLow = false → exec .resetNRise s = .next { s with resetLow := false }))

/-- RESET is a warm reset with cause RESET_COMMAND without a hold: its response is not kept, the link is ACQUIRING at once if
DOCK_PRESENT is high, and the IND lines are released until the next tenth (R195, R166, R199; the record of MISO: log entry 13). -/
def Obligations.ResetCommandIsAWarmReset : Prop :=
  ∀ s : State, s.Laws → s.listens →
    ∃ t, exec (.reset (txCarrying [])) s = .next t ∧ WarmReset .resetCommand s t ∧ t.resetLow = false
      ∧ t.link.state = (if s.dockPresent then .acquiring else .detached) ∧ t.lines.indWait = true
      ∧ t.port.miso = [0xFF#8, 0xFF#8]

/-! ## Time -/

/-- TENTH while no lock is lost: the liveness count of a locked link rises, every entry of the Outstanding Table counts down,
those that reach 0 expire with their records returned and the timeouts counted, the pulse count falls, and an IND release
ends (R157, R178, R199, R200). SEGMENT_PULSE_END ends the pulse that the next tenth ends, alone (log entry 5). -/
def Obligations.TenthCountsAndExpiresBlocks : Prop :=
  ∀ s : State,
    (s.lines.pulse ≤ 1 → exec .segmentPulseEnd s = .next { s with lines.pulse := 0 })
    ∧ (2 ≤ s.lines.pulse → exec .segmentPulseEnd s = .next s)
    ∧ (s.Laws → ¬ ((s.link.state = .locked ∨ s.link.state = .checking) ∧ 1 ≤ s.link.liveness) →
        let counted := if s.link.state = .locked ∨ s.link.state = .checking then s.link.liveness + 1 else s.link.liveness
        let due := s.upload.table.filter (fun o => decide (o.tenths ≤ 1))
        let freed := due.flatMap (fun o => o.slots)
        let left := (s.upload.table.filter (fun o => decide (2 ≤ o.tenths))).map (fun o => { o with tenths := o.tenths - 1 })
        exec .tenth s
          = .next { s with
              link.liveness := counted
              roster.slots := s.roster.slots.map (fun e => (e.1, if e.1 ∈ freed then { e.2 with upload := .idle } else e.2))
              upload := { s.upload with
                table := left
                returned := min 65535 (s.upload.returned + freed.length)
                timeouts := min 65535 (s.upload.timeouts + due.length) }
              lines := { pulse := s.lines.pulse - 1, indWait := false } })

/-- TENTH that brings the liveness count to 2: the lock is lost (R157, R180), with every record IDLE. Where a block expires at the
same tenth it is counted or it is not: R183 allows either order (log entry 7, a free value). That the liveness count stays 2 is the
model's choice (log entry 16). -/
def Obligations.TenthLosesTheLock : Prop :=
  ∀ s : State, s.Laws → (s.link.state = .locked ∨ s.link.state = .checking) → 1 ≤ s.link.liveness →
    let due := s.upload.table.filter (fun o => decide (o.tenths ≤ 1))
    let gone : Upload := { s.upload with state := .idle, cursor := some 0, table := [] }
    ∃ t, exec .tenth s = .next t ∧ LockLost s t ∧ t.dockPresent = s.dockPresent
      ∧ t.link = { s.link with
          state := .acquiring, syncRun := 0, liveness := 2, receiver := .hunt, txQueue := [], sending := none }
      ∧ t.lines = { pulse := s.lines.pulse - 1, indWait := false }
      ∧ (t.upload = gone
          ∨ t.upload = { gone with
              returned := min 65535 (s.upload.returned + (due.flatMap (fun o => o.slots)).length)
              timeouts := min 65535 (s.upload.timeouts + due.length) })

/-- LIVENESS_EXPIRY, due at the next tenth, loses the lock (R157, R180); not due it is not made (log entry 5).
DOCK_PRESENT_FALL: DETACHED with the queue emptied and the check result gone; from LOCKED or CHECKING also a loss of the
lock (R152, R38, R180). That the liveness count stays 2 after the expiry, and the SYNC run and the liveness count stay through
a fall, is the model's choice (log entry 16). -/
def Obligations.LockIsLostByExpiryAndFall : Prop :=
  (∀ s : State,
     (¬ ((s.link.state = .locked ∨ s.link.state = .checking) ∧ 1 ≤ s.link.liveness) → exec .livenessExpiry s = .next s)
     ∧ (s.Laws → (s.link.state = .locked ∨ s.link.state = .checking) → 1 ≤ s.link.liveness →
         ∃ t, exec .livenessExpiry s = .next t ∧ LockLost s t ∧ t.dockPresent = s.dockPresent
           ∧ t.link = { s.link with
               state := .acquiring, syncRun := 0, liveness := 2, receiver := .hunt, txQueue := [], sending := none }
           ∧ t.lines = s.lines ∧ t.draws = s.draws
           ∧ t.upload = { s.upload with state := .idle, cursor := some 0, table := [] }))
  ∧ (∀ s : State,
       let link : Link := { s.link with
         state := .detached, receiver := .hunt, txQueue := [], sending := none, held := .none, errors := 0, patterns := 0 }
       (s.link.state = .detached ∨ s.link.state = .acquiring →
         exec .dockPresentFall s = .next { s with dockPresent := false, link := link })
       ∧ (s.Laws → (s.link.state = .locked ∨ s.link.state = .checking) →
           ∃ t, exec .dockPresentFall s = .next t ∧ LockLost s t ∧ t.dockPresent = false ∧ t.link = link
             ∧ t.lines = s.lines ∧ t.draws = s.draws
             ∧ t.upload = { s.upload with state := .idle, cursor := some 0, table := [] }))

/-- ROUTE_SECOND in ACTIVE: the clock counts, and every segment whose deadline it reaches becomes MISSED in ascending order,
appended to the Revisit List, SEGMENT_MISSED raised; otherwise nothing changes (R41, R140). SEGMENT_DEADLINE_EXPIRY is the
expiry of one TRAILING segment alone whose deadline the next route second reaches. It is not made, and nothing changes, for a
segment that is not TRAILING or whose deadline lies beyond the next clock, outside ACTIVE, before the start and in a held
reset (log entry 5). -/
def Obligations.DeadlinesExpire : Prop :=
  (∀ s : State,
     (¬ (s.listens ∧ s.route.state = .active) → exec .routeSecond s = .next s)
     ∧ (s.Laws → s.listens → s.route.state = .active →
         let clock := min 16777215 (s.route.clock + 1)
         let due := (List.range 1024).filter (fun n => (s.segAt n).deadline.any (fun d => decide (d ≤ clock)))
         ∃ t, exec .routeSecond s = .next t
           ∧ t = { s with
               route.clock := clock
               seg.table := t.seg.table
               seg.revisit := s.seg.revisit ++ due
               port.causes := if due = [] then s.port.causes else s.port.causes ||| attSegmentMissed }
           ∧ ∀ n, t.segAt n = if n ∈ due then { s.segAt n with state := .missed, deadline := none } else s.segAt n))
  ∧ (∀ (s : State) (n : Nat),
       (¬ (s.listens ∧ s.route.state = .active) → exec (.segmentDeadlineExpiry n) s = .next s)
       ∧ (∀ d, s.listens → s.route.state = .active → (s.segAt n).state = .trailing → (s.segAt n).deadline = some d →
           d ≤ min 16777215 (s.route.clock + 1) →
           exec (.segmentDeadlineExpiry n) s
             = .next { setSeg n { s.segAt n with state := .missed, deadline := none } s with
                 seg.revisit := s.seg.revisit ++ [n], port.causes := s.port.causes ||| attSegmentMissed })
       ∧ ((s.segAt n).state ≠ .trailing ∨ (∀ d, (s.segAt n).deadline = some d → min 16777215 (s.route.clock + 1) < d) →
           exec (.segmentDeadlineExpiry n) s = .next s))

/-! ## The air path -/

/-- CHANNEL_WORD_ARRIVAL at an enabled channel that starts a word: the tests of Table 3-2 in their order, the first failing
one deciding; the word joins the FIFO, or is dropped and counted, with INTAKE_OVERRUN at a full FIFO (R49, R52, R54, R55,
R57). The bytes come with the gap that ends them (log entry 8). -/
def Obligations.ArrivingWordIsJudged : Prop :=
  ∀ (s : State) (ch : Fin 4) (bytes : List RxByte),
    s.listens → s.store.live.enables.get ch = true → (s.channels.get ch).rx = .assembling →
    (s.channels.get ch).word = {} → bytes ≠ [] →
    let c := s.channels.get ch
    let word := bytes.map (fun b => b.val)
    let k : Counter :=
      if bytes.length ≠ 14 ∨ bytes.any (fun b => b.fault) = true then .formatError
      else if (byteAt word 0).toNat / 16 ≠ 0xA then .formatError
      else if crc16 (word.take 11) ≠ BitVec.ofNat 16 ((byteAt word 11).toNat * 256 + (byteAt word 12).toNat) then .crcFail
      else if c.fifo.length ≥ 8 then .overrun
      else .framesIn
    exec (.channelWordArrival ch bytes) s
      = .next { s with
          channels := s.channels.set ch
            { c with fifo := if k = .framesIn then c.fifo ++ [word] else c.fifo, stats := c.stats.raise k }
          port.causes := if k = .overrun then s.port.causes ||| attIntakeOverrun else s.port.causes }

/-- WORD_END_GAP and the deaf channel: a channel that is disabled, not started or held by RESET_N ignores gaps and words; a
gap in GAP_WAIT starts the assembly; a gap with no byte gathered does nothing; a word that arrives in GAP_WAIT is discarded
uncounted and its gap starts the assembly (R49, R50, R51; log entry 8). -/
def Obligations.GapsAndDeafChannels : Prop :=
  ∀ (s : State) (ch : Fin 4) (bytes : List RxByte),
    (¬ (s.listens ∧ s.store.live.enables.get ch = true) →
      exec (.wordEndGap ch) s = .next s ∧ exec (.channelWordArrival ch bytes) s = .next s)
    ∧ (s.listens → s.store.live.enables.get ch = true → (s.channels.get ch).rx = .gapWait →
        exec (.wordEndGap ch) s
          = .next { s with channels := s.channels.set ch { s.channels.get ch with rx := .assembling, word := {} } }
        ∧ exec (.channelWordArrival ch bytes) s
          = .next { s with channels := s.channels.set ch { s.channels.get ch with rx := .assembling, word := {} } })
    ∧ (s.listens → s.store.live.enables.get ch = true → (s.channels.get ch).rx = .assembling →
        (s.channels.get ch).word.count = 0 → exec (.wordEndGap ch) s = .next s)

/-- TAKE of a word that meets no record: the first channel after the rotation pointer whose FIFO holds a word gives its head
word, the pointer names it, and the word is counted ROUTE_INACTIVE outside ACTIVE, or UNKNOWN when no record has its
identifier (R65, R66, R69, R70). With no word waiting no take is made (log entry 6). -/
def Obligations.TakeByRotation : Prop :=
  ∀ s : State, s.listens →
    ((∀ ch, (s.channels.get ch).fifo = []) → exec .take s = .next s)
    ∧ (∀ (i : Fin 4) (word : List Byte) (rest : List (List Byte)),
        (∀ j : Fin 4, j < i → (s.channels.get (s.rotation + 1 + j)).fifo = []) →
        (s.channels.get (s.rotation + 1 + i)).fifo = word :: rest →
        (s.route.state ≠ .active ∨ s.lookup (airWordOf word).meterId = none) →
        exec .take s
          = .next { s with
              rotation := s.rotation + 1 + i
              channels := s.channels.set (s.rotation + 1 + i)
                { s.channels.get (s.rotation + 1 + i) with
                  fifo := rest
                  stats := (s.channels.get (s.rotation + 1 + i)).stats.raise
                    (if s.route.state = .active then .unknown else .routeInactive) } })

/-- The tests 3 and 5 to 7 of a taken word against its record, in their order, with the sequence outcomes of Table 4-2, and
what each outcome latches: IDENT alone at test 3; else the four status indications, with CONFLICT or RESTART by the outcome
(R71 to R77). The counter of each outcome (Table 4-1); a counter raised is one more, holding at 65535, and no other counter
changes (R59). The signal: the first word sets best and smoothed to its RSSI; a later one raises
best and moves smoothed by the step (k + 1) (RSSI - smoothed) / 32 truncated toward zero, which never carries it past the
RSSI (R81). -/
def Obligations.WordsAreTestedInOrder : Prop :=
  (∀ (w : AirWord) (r : Record) (m : Nat),
     (w.kind ≠ r.kind → verdictOf w r m = .kindMismatch ∧ latchesOf w (verdictOf w r m) = latchIdent)
     ∧ (w.kind = r.kind → w.status.getLsbD 4 = true →
         verdictOf w r m = .invalidReading ∧ latchesOf w (verdictOf w r m) = w.indications)
     ∧ (w.kind = r.kind → w.status.getLsbD 4 = false → m ≤ w.value →
         verdictOf w r m = .badReading ∧ latchesOf w (verdictOf w r m) = w.indications)
     ∧ (w.kind = r.kind → w.status.getLsbD 4 = false → w.value < m →
         (r.reading = none → verdictOf w r m = .accepted false ∧ latchesOf w (verdictOf w r m) = w.indications)
         ∧ (∀ x, r.reading = some x →
             let d := (w.seq.toNat + 256 - x.seq.toNat) % 256
             (d = 0 → w.value = x.value → verdictOf w r m = .repeats ∧ latchesOf w (verdictOf w r m) = w.indications)
             ∧ (d = 0 → w.value ≠ x.value → verdictOf w r m = .conflict
                 ∧ latchesOf w (verdictOf w r m) = w.indications ||| latchConflict)
             ∧ (1 ≤ d → d ≤ 127 → verdictOf w r m = .accepted false
                 ∧ latchesOf w (verdictOf w r m) = w.indications)
             ∧ (128 ≤ d → w.seq.toNat ≤ 3 → verdictOf w r m = .accepted true
                 ∧ latchesOf w (verdictOf w r m) = w.indications ||| latchRestart)
             ∧ (128 ≤ d → 4 ≤ w.seq.toNat → verdictOf w r m = .stale
                 ∧ latchesOf w (verdictOf w r m) = w.indications)))
     ∧ (w.indications.getLsbD 0 = w.status.getLsbD 0 ∧ w.indications.getLsbD 1 = w.status.getLsbD 1
         ∧ w.indications.getLsbD 2 = w.status.getLsbD 2 ∧ w.indications.getLsbD 3 = w.status.getLsbD 3
         ∧ w.indications.getLsbD 4 = false ∧ w.indications.getLsbD 5 = false ∧ w.indications.getLsbD 6 = false))
  ∧ (Verdict.counter .kindMismatch = .kindMismatch ∧ Verdict.counter .invalidReading = .invalidReading
     ∧ Verdict.counter .badReading = .badReading ∧ Verdict.counter .repeats = .repeats
     ∧ Verdict.counter .conflict = .conflict ∧ Verdict.counter .stale = .stale
     ∧ (∀ restart, Verdict.counter (.accepted restart) = .accepted))
  ∧ (∀ (c : Stats) (k j : Counter),
       (c.raise k).value j = if j = k then min 65535 (c.value j + 1) else c.value j)
  ∧ (∀ (k rssi : Nat),
       signalAfter none k rssi = { best := rssi, smoothed := rssi }
       ∧ (∀ g : Signal, k ≤ 31 →
           (signalAfter (some g) k rssi).best = max g.best rssi
           ∧ ((signalAfter (some g) k rssi).smoothed : Int)
               = g.smoothed + Int.tdiv (((k : Int) + 1) * ((rssi : Int) - g.smoothed)) 32
           ∧ min g.smoothed rssi ≤ (signalAfter (some g) k rssi).smoothed
           ∧ (signalAfter (some g) k rssi).smoothed ≤ max g.smoothed rssi))

/-- TAKE of a word that meets its record: every effect of its outcome, and nothing else (R67, R72, R78, R79, R80, R82, R83, R84, R89). A
take bumps the generation and requests an evaluation once, for an accepted reading or for growth on a record with a reading. -/
def Obligations.TakeActsOnItsRecord : Prop :=
  ∀ (s : State) (ch : Fin 4) (word : List Byte) (rest : List (List Byte)) (slot : Nat) (r : Record),
    s.Laws → s.listens → s.route.state = .active → s.nextChannel = some ch →
    (s.channels.get ch).fifo = word :: rest →
    s.lookup (airWordOf word).meterId = some slot → s.recordAt slot = some r →
    let w := airWordOf word
    let p := s.store.live.profileAt r.profile
    let v := verdictOf w r (10 ^ p.digits)
    let accepted := v = .accepted false ∨ v = .accepted true
    let heard := accepted ∨ v = .repeats
    let latched := r.latched ||| latchesOf w v
    let bumps := accepted ∨ (latched ≠ r.latched ∧ r.reading.isSome = true)
    let first := accepted ∧ r.state = .expected
    let e := s.segAt r.segment
    let completes := first ∧ e.read + 1 = e.members
    ∃ t, exec .take s = .next t
      ∧ t.recordAt slot = some { r with
          latched := latched
          hearCount := if heard then min 255 (r.hearCount + 1) else r.hearCount
          signal := if heard then some (signalAfter r.signal p.smoothing w.rssi) else r.signal
          reading := if accepted then some { value := w.value, seq := w.seq, tRead := s.route.clock, channel := ch }
            else r.reading
          state := if first then .read else r.state
          generation := if bumps then r.generation + 1#8 else r.generation
          eval := if bumps then .queued else r.eval
          upload := if bumps ∧ r.upload.isCarried = true then .carried r.upload.blockCode true else r.upload }
      ∧ (∀ n, n ≠ slot → t.recordAt n = s.recordAt n)
      ∧ t.roster.index = s.roster.index
      ∧ t.eval = { s.eval with
          queue := if bumps ∧ r.eval ≠ .queued then s.eval.queue ++ [slot] else s.eval.queue }
      ∧ t.rotation = ch
      ∧ t.channels = s.channels.set ch
          { s.channels.get ch with fifo := rest, stats := (s.channels.get ch).stats.raise v.counter }
      ∧ t.segAt r.segment = (if completes then { e with read := e.read + 1, state := .complete, deadline := none }
          else if first then { e with read := e.read + 1 } else e)
      ∧ (∀ n, n ≠ r.segment → t.segAt n = s.segAt n)
      ∧ t.seg.revisit = (if completes then s.seg.revisit.filter (fun n => n != r.segment) else s.seg.revisit)
      ∧ t.seg.staged = s.seg.staged ∧ t.seg.applied = s.seg.applied
      ∧ t.port = { s.port with causes := if completes then s.port.causes ||| attSegmentComplete else s.port.causes }
      ∧ t.lines = { s.lines with pulse := if completes then 5 else s.lines.pulse }
      ∧ t.route = s.route ∧ t.chain = s.chain ∧ t.link = s.link ∧ t.upload = s.upload ∧ t.store = s.store
      ∧ t.power = s.power ∧ t.resetLow = s.resetLow ∧ t.dockPresent = s.dockPresent ∧ t.draws = s.draws
      ∧ t.pending = s.pending

/-! ## Evaluation -/

/-- EVALUATION_START: made when the unit is IDLE and the queue holds a slot, not while RESET_N is low; the head's record
becomes RUNNING with the snapshot of Table 5-2, its slot leaves the queue, and the unit holds the computation (R91).
Otherwise the event is not made (log entry 6). -/
def Obligations.EvaluationStartTakesTheHead : Prop :=
  ∀ s : State,
    (¬ s.listens ∨ s.eval.running ≠ none ∨ s.eval.queue = [] → exec .evaluationStart s = .next s)
    ∧ (∀ slot rest, s.Laws → s.listens → s.eval.running = none → s.eval.queue = slot :: rest →
        ∃ r x, s.recordAt slot = some r ∧ r.eval = .queued ∧ r.reading = some x
          ∧ exec .evaluationStart s
            = .next { setRecord slot { r with eval := .running } s with
                eval := {
                  running := some {
                    slot := slot
                    snap := {
                      generation := r.generation, value := x.value, tRead := x.tRead, baseline := r.baseline,
                      baselineAge := r.baselineAge, bandLow := r.bandLow, bandHigh := r.bandHigh,
                      digits := (s.store.live.profileAt r.profile).digits,
                      threshold := (s.store.live.profileAt r.profile).threshold,
                      weights := (s.store.live.profileAt r.profile).weights, latched := r.latched }
                    departed := false }
                  queue := rest } })

/-- EVALUATION_COMPLETION drops the result of a computation whose record departed, is not RUNNING, or changed its generation
(R101); otherwise it writes the result and makes the flag decision with the snapshot's threshold: a READ record, or a
REVIEWED one with a cause absent from its reviewed causes, whose score reaches a non-zero T becomes FLAGGED, joins the tail
of the chain and raises FLAG_ADDED (R102, R108, R109, R110, R111, R117, R118). With no computation nothing happens (log
entry 6). -/
def Obligations.ResultIsDroppedOrWritten : Prop :=
  (∀ s : State,
     (s.eval.running = none → exec .evaluationCompletion s = .next s)
     ∧ (∀ c, s.eval.running = some c →
         (c.departed = true ∨ s.recordAt c.slot = none
           ∨ ∃ r, s.recordAt c.slot = some r ∧ (r.eval ≠ .running ∨ r.generation ≠ c.snap.generation)) →
         exec .evaluationCompletion s = .next { s with eval.running := none }))
  ∧ (∀ (s : State) (c : Computation) (r : Record),
       s.eval.running = some c → c.departed = false → s.recordAt c.slot = some r → r.eval = .running →
       r.generation = c.snap.generation →
       let res := c.snap.result
       let flagged := c.snap.threshold ≠ 0 ∧ c.snap.threshold ≤ res.score
         ∧ (r.state = .read
             ∨ (r.state = .reviewed
                 ∧ ∃ i, i < 10 ∧ res.causes.getLsbD i = true ∧ (r.reviewedCauses.getD 0#10).getLsbD i = false))
       let r' : Record := { r with
         result := some res
         eval := .done
         upload := if r.upload.isCarried = true then .carried r.upload.blockCode true else r.upload }
       (¬ flagged → exec .evaluationCompletion s = .next { setRecord c.slot r' s with eval.running := none })
       ∧ (flagged → exec .evaluationCompletion s
           = .next { setSeg r.segment { s.segAt r.segment with flagged := (s.segAt r.segment).flagged + 1 }
                       (setRecord c.slot { r' with state := .flagged } s) with
               eval.running := none
               chain := s.chain ++ [c.slot]
               port.causes := s.port.causes ||| attFlagAdded }))

/-- Stages 2 to 5 of an evaluation: forward without wrap, an accepted rollover when the wrapped advance is at or below the
allowance H E / 24 rounded up, and reverse beyond it; the daily rate over E whole hours, 1 in place of 0; the class by the
band (R94 to R98). And the ranges of Table 5-4: E in 1 to 8755, A at most 23,906,622, the advance at most 999,999,999, the
rate at most 65535, the score at most 255. -/
def Obligations.EvaluationFollowsTheStages : Prop :=
  (∀ p : Snapshot, p.baseline < 10 ^ p.digits →
     let m := 10 ^ p.digits
     let hours := max 1 (p.baselineAge + p.tRead / 3600)
     (p.baseline ≤ p.value → p.result.delta = p.value - p.baseline ∧ p.result.rollover = false)
     ∧ (p.value < p.baseline → 24 * (p.value + m - p.baseline) < p.bandHigh * hours + 24 →
         p.result.delta = p.value + m - p.baseline ∧ p.result.rollover = true ∧ p.result.cls ≠ .reverse)
     ∧ (p.value < p.baseline → p.bandHigh * hours + 24 ≤ 24 * (p.value + m - p.baseline) →
         p.result.delta = p.baseline - p.value ∧ p.result.rollover = false ∧ p.result.cls = .reverse)
     ∧ p.result.rate = min 65535 (p.result.delta * 24 / hours)
     ∧ (p.baseline ≤ p.value ∨ p.result.rollover = true →
         (p.result.rate < p.bandLow → p.result.cls = .low)
         ∧ (p.bandLow ≤ p.result.rate → p.bandHigh < p.result.rate → p.result.cls = .high)
         ∧ (p.bandLow ≤ p.result.rate → p.result.rate ≤ p.bandHigh → p.result.cls = .normal)))
  ∧ (∀ p : Snapshot, p.digits ≤ 9 → p.value < 10 ^ p.digits → p.baseline < 10 ^ p.digits → p.baselineAge ≤ 4095 →
       p.tRead ≤ 16777215 → p.bandHigh ≤ 65535 →
       1 ≤ elapsedHours p.baselineAge p.tRead ∧ elapsedHours p.baselineAge p.tRead ≤ 8755
       ∧ allowance p.bandHigh (elapsedHours p.baselineAge p.tRead) ≤ 23906622
       ∧ p.result.delta ≤ 999999999 ∧ p.result.rate ≤ 65535 ∧ p.result.score ≤ 255)

/-- The cause set has the cause of the class, ROLLOVER when one was accepted, and every latched indication but LOW_BATTERY; the
score is the sum of the weights of its causes, capped at 255 (R99, R100). -/
def Obligations.CausesAndScore : Prop :=
  ∀ (p : Snapshot) (w0 w1 w2 w3 w4 w5 w6 w7 w8 w9 : Nat), p.weights = [w0, w1, w2, w3, w4, w5, w6, w7, w8, w9] →
    let c := p.result.causes
    (c.getLsbD 0 = true ↔ p.result.cls = .low) ∧ (c.getLsbD 1 = true ↔ p.result.cls = .high)
    ∧ (c.getLsbD 2 = true ↔ p.result.cls = .reverse) ∧ c.getLsbD 3 = p.result.rollover
    ∧ c.getLsbD 4 = p.latched.getLsbD 0 ∧ c.getLsbD 5 = p.latched.getLsbD 1 ∧ c.getLsbD 6 = p.latched.getLsbD 2
    ∧ c.getLsbD 7 = p.latched.getLsbD 4 ∧ c.getLsbD 8 = p.latched.getLsbD 5 ∧ c.getLsbD 9 = p.latched.getLsbD 6
    ∧ p.result.score = min 255
        ((if c.getLsbD 0 then w0 else 0) + (if c.getLsbD 1 then w1 else 0) + (if c.getLsbD 2 then w2 else 0)
          + (if c.getLsbD 3 then w3 else 0) + (if c.getLsbD 4 then w4 else 0) + (if c.getLsbD 5 then w5 else 0)
          + (if c.getLsbD 6 then w6 else 0) + (if c.getLsbD 7 then w7 else 0) + (if c.getLsbD 8 then w8 else 0)
          + (if c.getLsbD 9 then w9 else 0))

/-! ## Flags and review -/

/-- FLAG READ, REVISIT READ and REJECT READ show one entry of their list by its number, with the list's length or the reject count,
or END past its end, and change nothing (R116, R143, R35). -/
def Obligations.ListReadsShowOneEntry : Prop :=
  ∀ (s : State) (k : Nat), s.listens → k < 65536 →
    (∀ slot r, s.chain[k]? = some slot → s.recordAt slot = some r →
      Answers .flagRead (beBytes 2 k) s .ok (beBytes 2 s.chain.length ++ beBytes 2 k ++ r.view slot) s)
    ∧ (s.chain.length ≤ k → Answers .flagRead (beBytes 2 k) s .endOfList (beBytes 2 s.chain.length) s)
    ∧ (∀ n, s.seg.revisit[k]? = some n →
        Answers .revisitRead (beBytes 2 k) s .ok
          (beBytes 2 s.seg.revisit.length ++ beBytes 2 k ++ (s.segAt n).view n (s.seg.applied.covers n)) s)
    ∧ (s.seg.revisit.length ≤ k →
        Answers .revisitRead (beBytes 2 k) s .endOfList (beBytes 2 s.seg.revisit.length) s)
    ∧ (∀ x, k < 256 → s.route.rejectList[k]? = some x →
        Answers .rejectRead (beBytes 1 k) s .ok
          (beBytes 2 x.arrival ++ beBytes 4 x.meterId.toNat ++ [BitVec.ofNat 8 x.reason.code] ++ beBytes 2 s.route.rejects) s)
    ∧ (k < 256 → s.route.rejectList.length ≤ k →
        Answers .rejectRead (beBytes 1 k) s .endOfList (beBytes 2 s.route.rejects) s)

/-- REVIEW and REVIEW HEAD make a FLAGGED record REVIEWED with its result's causes as reviewed causes, take it off the chain, reduce
its segment's flagged count and mark it superseded when carried; the refusals change nothing (R113, R114, R112, R118). -/
def Obligations.ReviewTakesTheFlag : Prop :=
  ∀ (s : State) (slot : Nat) (id : Word), s.listens → slot < 65536 →
    let args := beBytes 2 slot ++ beBytes 4 id.toNat
    (¬ (slot < 8192 ∧ ∃ r, s.recordAt slot = some r ∧ r.meterId = id) → Answers .review args s .notFound [] s)
    ∧ (s.chain = [] → Answers .reviewHead [] s .endOfList [] s)
    ∧ (∀ r, s.recordAt slot = some r →
        let r' : Record := { r with
          state := .reviewed
          reviewedCauses := r.result.map (fun x => x.causes)
          upload := if r.upload.isCarried = true then .carried r.upload.blockCode true else r.upload }
        let t : State := { setSeg r.segment { s.segAt r.segment with flagged := (s.segAt r.segment).flagged - 1 }
            (setRecord slot r' s) with chain := s.chain.filter (fun n => n != slot) }
        (slot < 8192 → r.meterId = id → r.state ≠ .flagged → Answers .review args s .notFlagged [] s)
        ∧ (slot < 8192 → r.meterId = id → r.state = .flagged → Answers .review args s .ok (r'.view slot) t)
        ∧ (∀ rest, s.chain = slot :: rest → Answers .reviewHead [] s .ok (r'.view slot) t))

/-! ## Segments and windows -/

/-- The covered set is the union of the two windows, and its size, which WINDOW READ and WINDOW APPLY report, the number of its
segments, at most 64 (R132). WINDOW STAGE, WINDOW DEPTH and WINDOW READ:
the staged values written by selector and clamped, in READY and ACTIVE alone, and the values read back in every route state
(R133, R134, R135). -/
def Obligations.WindowsAreStagedAndRead : Prop :=
  (∀ w : Windows, w.depth ≤ 64 →
     (∀ n, w.covers n = true ↔
       n ≤ 1023 ∧ ((w.startA ≤ n ∧ n < w.startA + min w.split w.depth)
         ∨ (w.split < w.depth ∧ w.startB ≤ n ∧ n < w.startB + (w.depth - w.split))))
     ∧ w.coveredCount = (List.range 1024).countP (fun n => w.covers n) ∧ w.coveredCount ≤ 64)
  ∧ (∀ (s : State) (sel w sp : Byte) (start : Nat), s.listens → start < 65536 →
       let old := s.seg.staged
       let staged : Windows := { old with
         startA := if sel = 1#8 then old.startA else min 1023 start
         startB := if sel = 0#8 then old.startB else min 1023 start }
       let deep : Windows := { old with depth := min 64 w.toNat, split := min 64 sp.toNat }
       let four := fun (v : Windows) => beBytes 2 v.startA ++ beBytes 2 v.startB ++ beBytes 1 v.depth ++ beBytes 1 v.split
       ((s.route.state = .ready ∨ s.route.state = .active) →
           Answers .windowStage (sel :: beBytes 2 start) s .ok (four staged) { s with seg.staged := staged }
           ∧ Answers .windowDepth [w, sp] s .ok (four deep) { s with seg.staged := deep })
       ∧ (s.route.state ≠ .ready → s.route.state ≠ .active →
           Answers .windowStage (sel :: beBytes 2 start) s .wrongRouteState [] s
           ∧ Answers .windowDepth [w, sp] s .wrongRouteState [] s)
       ∧ Answers .windowRead [sel] s .ok
           (beBytes 2 (if sel = 0#8 then old.startA else old.startB) ++ beBytes 1 old.depth ++ beBytes 1 old.split
             ++ four s.seg.applied ++ beBytes 1 s.seg.applied.coveredCount) s)

/-- WINDOW APPLY in ACTIVE puts the staged windows in force and settles every segment by its coverage before and after:
newly covered ones visited and, where they owe readings, ACTIVE; newly uncovered ACTIVE ones TRAILING with their deadline, or
MISSED with grace 0; all others as they were; the Revisit List and the four numbers of the answer follow (R136 to R139). -/
def Obligations.WindowApplySettlesEverySegment : Prop :=
  ∀ s : State, s.listens →
    (s.route.state ≠ .active → Answers .windowApply [] s .wrongRouteState [] s)
    ∧ (s.Laws → s.route.state = .active →
        let old := s.seg.applied
        let new := s.seg.staged
        let grace := s.store.live.grace
        let entered := fun n => new.covers n && !old.covers n
        let left := fun n => old.covers n && !new.covers n && decide ((s.segAt n).state = .active)
        let wakes := fun n => entered n
          && (decide ((s.segAt n).state = .pending) || decide ((s.segAt n).state = .trailing)
            || decide ((s.segAt n).state = .missed) || decide ((s.segAt n).state = .waived))
        let all := List.range 1024
        ∃ t, Answers .windowApply [] s .ok
            (beBytes 1 new.coveredCount ++ beBytes 1 (all.filter wakes).length
              ++ beBytes 1 (if grace = 0 then 0 else (all.filter left).length)
              ++ beBytes 1 (if grace = 0 then (all.filter left).length else 0)) t
          ∧ (∀ n, t.segAt n =
              if wakes n then { s.segAt n with visited := true, state := .active, deadline := none }
              else if entered n then { s.segAt n with visited := true }
              else if left n then
                (if grace = 0 then { s.segAt n with state := .missed, deadline := none }
                 else { s.segAt n with state := .trailing, deadline := some (s.route.clock + 2 * grace) })
              else s.segAt n)
          ∧ t = { s with
              seg := {
                table := t.seg.table
                staged := new
                applied := new
                revisit := s.seg.revisit.filter (fun n => !wakes n) ++ (if grace = 0 then all.filter left else []) }
              port.causes := if grace = 0 ∧ all.filter left ≠ [] then s.port.causes ||| attSegmentMissed
                else s.port.causes })

/-- SEGMENT READ shows one entry in the layout of Table 12-6, and WAIVE gives up a MISSED segment, which leaves the Revisit List (R145,
R144). -/
def Obligations.SegmentReadAndWaive : Prop :=
  ∀ (s : State) (n : Nat), s.listens → n < 65536 →
    let bytes := fun (e : SegEntry) =>
      beBytes 2 n ++ [BitVec.ofNat 8 e.state.code] ++ beBytes 2 e.members ++ beBytes 2 e.read ++ beBytes 2 e.flagged
        ++ [BitVec.ofNat 8 ((if e.visited then 1 else 0) + (if s.seg.applied.covers n then 2 else 0)
              + (if e.deadline.isSome then 4 else 0))]
        ++ beBytes 4 (e.deadline.getD 0)
    (1023 < n →
      Answers .segmentRead (beBytes 2 n) s .notFound [] s ∧ Answers .waive (beBytes 2 n) s .notFound [] s)
    ∧ (n ≤ 1023 → Answers .segmentRead (beBytes 2 n) s .ok (bytes (s.segAt n)) s)
    ∧ (n ≤ 1023 → (s.segAt n).state ≠ .missed → Answers .waive (beBytes 2 n) s .notMissed [] s)
    ∧ (n ≤ 1023 → (s.segAt n).state = .missed →
        Answers .waive (beBytes 2 n) s .ok (bytes { s.segAt n with state := .waived })
          { setSeg n { s.segAt n with state := .waived } s with
            seg.revisit := s.seg.revisit.filter (fun m => m != n) })

/-! ## The roster -/

/-- Under the laws a lookup finds a slot exactly when the record in it has the identifier (R9, R10). LOOKUP, READ SLOT and
READ NEXT answer with the record view and move the cursor as their rules state (R20, R21, R22). -/
def Obligations.RecordsAreFoundAndRead : Prop :=
  (∀ (s : State) (id : Word) (slot : Nat), s.Laws →
     (s.lookup id = some slot ↔ ∃ r, s.recordAt slot = some r ∧ r.meterId = id))
  ∧ (∀ (s : State) (id : Word) (slot : Nat), s.listens → slot < 65536 →
       let above := fun (n : Nat) => ∀ c, s.port.cursor = some c → c < n
       (∀ n r, s.lookup id = some n → s.recordAt n = some r →
         Answers .lookup (beBytes 4 id.toNat) s .ok (r.view n) { s with port.cursor := some n })
       ∧ (s.lookup id = none → Answers .lookup (beBytes 4 id.toNat) s .notFound [] s)
       ∧ (∀ r, slot < 8192 → s.recordAt slot = some r →
           Answers .readSlot (beBytes 2 slot) s .ok (r.view slot) { s with port.cursor := some slot })
       ∧ (slot < 8192 → s.recordAt slot = none →
           Answers .readSlot (beBytes 2 slot) s .notFound [] { s with port.cursor := some slot })
       ∧ (8192 ≤ slot → Answers .readSlot (beBytes 2 slot) s .notFound [] { s with port.cursor := none })
       ∧ (∀ n r, s.tablesLaw → s.recordAt n = some r → above n → (∀ m, m < n → above m → s.recordAt m = none) →
           Answers .readNext [] s .ok (r.view n) { s with port.cursor := some n })
       ∧ (s.tablesLaw → (∀ m, above m → s.recordAt m = none) → Answers .readNext [] s .endOfList [] s))

/-- The upload record image and the record view carry the record where Table 12-4 and the record view's parts place it, with the
parts of an absent reading, signal or result zero (R173, R19, R208). -/
def Obligations.RecordImageCarriesTheRecord : Prop :=
  ∀ (r : Record) (slot m : Nat), slot < 8192 → m ≤ 1000000000 → r.inRange m →
    r.image.length = 28 ∧ (r.view slot).length = 47
    ∧ fieldAt (r.view slot) 0 2 = slot ∧ ((r.view slot).drop 2).take 28 = r.image
    ∧ fieldAt r.image 0 4 = r.meterId.toNat
    ∧ bitsOf (byteAt r.image 4) 7 6 = r.kind.code ∧ bitsOf (byteAt r.image 4) 5 3 = r.state.code
    ∧ ((byteAt r.image 4).getLsbD 2 = true ↔ r.state = .flagged)
    ∧ (byteAt r.image 5).getLsbD 7 = r.reading.isSome ∧ (byteAt r.image 5).getLsbD 6 = r.signal.isSome
    ∧ (byteAt r.image 5).getLsbD 5 = r.result.isSome
    ∧ (∀ x, r.reading = some x →
        bitsOf (byteAt r.image 5) 4 3 = x.channel.val ∧ fieldAt r.image 6 4 = x.value ∧ byteAt r.image 10 = x.seq
        ∧ fieldAt r.image 11 3 = x.tRead)
    ∧ (r.reading = none →
        bitsOf (byteAt r.image 5) 4 3 = 0 ∧ fieldAt r.image 6 4 = 0 ∧ byteAt r.image 10 = 0#8 ∧ fieldAt r.image 11 3 = 0)
    ∧ fieldAt r.image 14 1 = r.latched.toNat ∧ fieldAt r.image 15 1 = r.hearCount
    ∧ (∀ g, r.signal = some g → fieldAt r.image 16 1 = g.best ∧ fieldAt r.image 17 1 = g.smoothed)
    ∧ (r.signal = none → fieldAt r.image 16 1 = 0 ∧ fieldAt r.image 17 1 = 0)
    ∧ (∀ x, r.result = some x →
        fieldAt r.image 18 4 = x.delta ∧ fieldAt r.image 22 2 = x.rate ∧ fieldAt r.image 24 2 = x.causes.toNat
        ∧ fieldAt r.image 26 1 = x.score ∧ (byteAt r.image 5).getLsbD 2 = x.rollover
        ∧ bitsOf (byteAt r.image 5) 1 0 = x.cls.code)
    ∧ (r.result = none →
        fieldAt r.image 18 4 = 0 ∧ fieldAt r.image 22 2 = 0 ∧ fieldAt r.image 24 2 = 0 ∧ fieldAt r.image 26 1 = 0
        ∧ (byteAt r.image 5).getLsbD 2 = false ∧ bitsOf (byteAt r.image 5) 1 0 = 0)
    ∧ byteAt r.image 27 = r.generation
    ∧ fieldAt (r.view slot) 30 1 = r.profile ∧ fieldAt (r.view slot) 31 2 = r.segment
    ∧ fieldAt (r.view slot) 33 4 = r.baseline ∧ fieldAt (r.view slot) 37 2 = r.baselineAge
    ∧ fieldAt (r.view slot) 39 2 = r.bandLow ∧ fieldAt (r.view slot) 41 2 = r.bandHigh
    ∧ bitsOf (byteAt (r.view slot) 43) 1 0 = r.eval.code
    ∧ (byteAt (r.view slot) 43).getLsbD 2 = r.reviewedCauses.isSome
    ∧ (byteAt (r.view slot) 43).getLsbD 3 = r.upload.isCarried
    ∧ (byteAt (r.view slot) 43).getLsbD 4 = r.upload.isSuperseded
    ∧ byteAt (r.view slot) 44 = r.upload.blockCode
    ∧ fieldAt (r.view slot) 45 2 = (r.reviewedCauses.map (fun c => c.toNat)).getD 0

/-- A candidate's tests in the order of R14, with the bucket of R7: the first that fails names the reason. INSERT in READY
and ACTIVE creates a record that passes the tests, in the lowest free slot and the lowest empty way of its bucket, and answers
its slot, or answers the reason of the first failing test; in
other route states it is refused (R23, R15). -/
def Obligations.CandidatesAreInserted : Prop :=
  (∀ (s : State) (im : LoadImage),
     let bucket := ((im.meterId ^^^ (im.meterId >>> 11) ^^^ (im.meterId >>> 22)).toNat) % 2048
     let m := 10 ^ (s.store.live.profileAt im.profile).digits
     validate s im =
       if im.meterId = 0#32 ∨ im.meterId = 0xFFFFFFFF#32 then some .badId
       else if 15 < im.profile then some .badProfile
       else if 1023 < im.segment then some .badSegment
       else if m ≤ im.baseline ∨ 4095 < im.baselineAge then some .badBaseline
       else if im.bandHigh < im.bandLow then some .badBand
       else if s.lookup im.meterId ≠ none then some .duplicateId
       else if 8192 ≤ s.rosterCount then some .rosterFull
       else if ∀ way : Fin 8, tableGet s.roster.index (8 * bucket + way) ≠ none then some .bucketFull
       else none)
  ∧ (∀ (s : State) (args : List Byte), s.listens → args.length = 17 →
       (s.route.state ≠ .ready → s.route.state ≠ .active → Answers .insert args s .wrongRouteState [] s)
       ∧ (∀ why, (s.route.state = .ready ∨ s.route.state = .active) → validate s (loadImageOf args) = some why →
           Answers .insert args s why [] s)
       ∧ (s.Laws → (s.route.state = .ready ∨ s.route.state = .active) → validate s (loadImageOf args) = none →
           ∃ slot t, Answers .insert args s .ok (beBytes 2 slot) t ∧ Created (loadImageOf args) slot s t
             ∧ t = { s with roster := t.roster, seg := t.seg, port.causes := t.port.causes }))

/-- AMEND: the refusals in their order, and the writing of the selected fields, with the bump and the request where band or profile is
selected. Where the segment changes, the counts move and both segments are settled in the one event, with the Revisit List, the
causes and the pulse (R24, R25, R125, R126, R127, R129, R130, R142, R146, R200). -/
def Obligations.AmendWritesTheSelection : Prop :=
  ∀ (s : State) (slot : Nat) (sel : Byte) (image : List Byte) (r : Record),
    s.listens → slot < 65536 → image.length = 17 →
    let args := beBytes 2 slot ++ [sel] ++ image
    let im := loadImageOf image
    let edit := s.route.state = .ready ∨ s.route.state = .active
    let r1 : Record := { r with
      kind := if sel.getLsbD 0 then im.kind else r.kind
      profile := if sel.getLsbD 1 then im.profile else r.profile
      segment := if sel.getLsbD 2 then im.segment else r.segment
      baseline := if sel.getLsbD 3 then im.baseline else r.baseline
      baselineAge := if sel.getLsbD 4 then im.baselineAge else r.baselineAge
      bandLow := if sel.getLsbD 5 then im.bandLow else r.bandLow
      bandHigh := if sel.getLsbD 5 then im.bandHigh else r.bandHigh }
    let m := 10 ^ (s.store.live.profileAt r1.profile).digits
    let named := slot < 8192 ∧ s.recordAt slot = some r ∧ r.meterId = im.meterId
    let locked := s.route.state = .active ∧ (sel.getLsbD 0 ∨ sel.getLsbD 3 ∨ sel.getLsbD 4)
    let badProfile := sel.getLsbD 1 = true ∧ 15 < im.profile
    let badSegment := sel.getLsbD 2 = true ∧ 1023 < im.segment
    let badBaseline := m ≤ r1.baseline ∨ (sel.getLsbD 4 = true ∧ 4095 < im.baselineAge)
      ∨ ∃ x, r.reading = some x ∧ m ≤ x.value
    let badBand := sel.getLsbD 5 = true ∧ im.bandHigh < im.bandLow
    let bumps := sel.getLsbD 1 = true ∨ sel.getLsbD 5 = true
    let asks := bumps ∧ r.reading.isSome = true
    (¬ edit → Answers .amend args s .wrongRouteState [] s)
    ∧ (edit → ¬ (slot < 8192 ∧ ∃ r, s.recordAt slot = some r ∧ r.meterId = im.meterId) →
        Answers .amend args s .notFound [] s)
    ∧ (edit → named → r.upload.isCarried = true → Answers .amend args s .inFlight [] s)
    ∧ (edit → named → r.upload.isCarried = false → locked → Answers .amend args s .lockedField [] s)
    ∧ (edit → named → r.upload.isCarried = false → ¬ locked → badProfile → Answers .amend args s .badProfile [] s)
    ∧ (edit → named → r.upload.isCarried = false → ¬ locked → ¬ badProfile → badSegment →
        Answers .amend args s .badSegment [] s)
    ∧ (edit → named → r.upload.isCarried = false → ¬ locked → ¬ badProfile → ¬ badSegment → badBaseline →
        Answers .amend args s .badBaseline [] s)
    ∧ (edit → named → r.upload.isCarried = false → ¬ locked → ¬ badProfile → ¬ badSegment → ¬ badBaseline → badBand →
        Answers .amend args s .badBand [] s)
    ∧ (s.Laws → edit → named → r.upload.isCarried = false → ¬ locked → ¬ badProfile → ¬ badSegment → ¬ badBaseline →
        ¬ badBand →
        let r2 : Record := { r1 with
          generation := if bumps then r.generation + 1#8 else r.generation
          eval := if asks then .queued else r.eval }
        let a := s.segAt r.segment
        let b := s.segAt r1.segment
        let isRead := if r.state = .expected then 0 else 1
        let isFlagged := if r.state = .flagged then 1 else 0
        let vacated := a.members = 1
        let completed := r.state = .expected ∧ 1 < a.members ∧ a.read + 1 = a.members
        let gained := if r.state = .expected then b.afterGain (s.seg.applied.covers r1.segment)
          else if b.state = .vacant then .complete else b.state
        let missed := r.state = .expected ∧ gained = .missed ∧ b.state ≠ .missed
        ∃ t, Answers .amend args s .ok (r2.view slot) t
          ∧ t.recordAt slot = some r2 ∧ (∀ n, n ≠ slot → t.recordAt n = s.recordAt n)
          ∧ t.roster.index = s.roster.index
          ∧ t.eval = { s.eval with
              queue := if asks ∧ r.eval ≠ .queued then s.eval.queue ++ [slot] else s.eval.queue }
          ∧ (r1.segment = r.segment → t = { s with roster := t.roster, eval := t.eval })
          ∧ (r1.segment ≠ r.segment →
              t = { s with
                roster := t.roster
                eval := t.eval
                seg := { s.seg with
                  table := t.seg.table
                  revisit := (if vacated ∨ completed then s.seg.revisit.filter (fun n => n != r.segment) else s.seg.revisit)
                    ++ (if missed then [r1.segment] else []) }
                port.causes := s.port.causes ||| (if completed then attSegmentComplete else 0#8)
                  ||| (if missed then attSegmentMissed else 0#8)
                lines.pulse := if completed then 5 else s.lines.pulse }
              ∧ t.segAt r.segment = { a with
                  members := a.members - 1
                  read := a.read - isRead
                  flagged := a.flagged - isFlagged
                  state := if vacated then .vacant else if completed then .complete else a.state
                  deadline := if vacated ∨ completed then none else a.deadline }
              ∧ t.segAt r1.segment = { b with
                  members := b.members + 1, read := b.read + isRead, flagged := b.flagged + isFlagged, state := gained }
              ∧ (∀ n, n ≠ r.segment → n ≠ r1.segment → t.segAt n = s.segAt n)))

/-- RETIRE takes one record off the part, whatever its state, unless it is CARRIED; REEVALUATE bumps the generation of a record with a
reading, requests an evaluation and marks a carried record superseded (R26, R27, R16, R18). -/
def Obligations.RetireAndReevaluate : Prop :=
  ∀ (s : State) (slot : Nat) (id : Word), s.listens → slot < 65536 →
    let args := beBytes 2 slot ++ beBytes 4 id.toNat
    let open' := s.route.state = .ready ∨ s.route.state = .active ∨ s.route.state = .closed
    let missing := ¬ (slot < 8192 ∧ ∃ r, s.recordAt slot = some r ∧ r.meterId = id)
    (¬ open' → Answers .retire args s .wrongRouteState [] s)
    ∧ (open' → missing → Answers .retire args s .notFound [] s)
    ∧ (missing → Answers .reevaluate args s .notFound [] s)
    ∧ (∀ r, slot < 8192 → s.recordAt slot = some r → r.meterId = id →
        (open' → r.upload.isCarried = true → Answers .retire args s .inFlight [] s)
        ∧ (s.Laws → open' → r.upload.isCarried = false →
            ∃ t, Answers .retire args s .ok [] t ∧ Retired slot r s t
              ∧ t.upload = { s.upload with cursor := t.upload.cursor }
              ∧ t.power = s.power ∧ t.resetLow = s.resetLow ∧ t.dockPresent = s.dockPresent ∧ t.draws = s.draws
              ∧ t.pending = s.pending)
        ∧ (r.reading = none → Answers .reevaluate args s .noReading [] s)
        ∧ (r.reading ≠ none →
            Answers .reevaluate args s .ok [r.generation + 1#8]
              { setRecord slot { r with
                  generation := r.generation + 1#8
                  eval := .queued
                  upload := if r.upload.isCarried = true then .carried r.upload.blockCode true else r.upload } s with
                eval.queue := if r.eval = .queued then s.eval.queue else s.eval.queue ++ [slot] }))

/-- PROFILE READ shows a profile; PROFILE WRITE clamps digits and k and replaces the profile, refused BUSY during a commit, for a number
above 15, or when a record of the profile would be left with a baseline or a reading at or above the new modulus (R12, R13). -/
def Obligations.ProfilesAreReadAndWritten : Prop :=
  ∀ (s : State) (n digits t k : Byte) (ws : List Byte), s.listens → ws.length = 10 →
    let args := n :: digits :: t :: k :: ws
    let p : Profile := { digits := max 4 (min 9 digits.toNat), threshold := t.toNat, smoothing := min 31 k.toNat,
                         weights := ws.map (fun w => w.toNat) }
    let clash := ∃ e ∈ s.roster.slots, e.2.profile = n.toNat
      ∧ (10 ^ p.digits ≤ e.2.baseline ∨ ∃ x, e.2.reading = some x ∧ 10 ^ p.digits ≤ x.value)
    (16 ≤ n.toNat → Answers .profileRead [n] s .badProfile [] s)
    ∧ (n.toNat < 16 → Answers .profileRead [n] s .ok (n :: (s.store.live.profileAt n.toNat).bytes) s)
    ∧ (s.store.commit ≠ none → Answers .profileWrite args s .busy [] s)
    ∧ (s.store.commit = none → 16 ≤ n.toNat → Answers .profileWrite args s .badProfile [] s)
    ∧ (s.store.commit = none → n.toNat < 16 → clash → Answers .profileWrite args s .badBaseline [] s)
    ∧ (∀ h : n.toNat < 16, s.store.commit = none → ¬ clash →
        Answers .profileWrite args s .ok
          (n :: BitVec.ofNat 8 p.digits :: t :: BitVec.ofNat 8 p.smoothing :: ws)
          { s with store.live.profiles := s.store.live.profiles.set n.toNat p h })

/-! ## The route -/

/-- LOAD OPEN and ROUTE OPEN: the two checks, and the opening of the load by its party (R30, R29). -/
def Obligations.LoadIsOpened : Prop :=
  ∀ (s : State) (id check : Word) (count : Nat), count < 65536 →
    let m := beBytes 4 id.toNat ++ beBytes 2 count ++ beBytes 4 check.toNat
    let opened := fun (owner : Owner) => ({
      state := .loading, owner := owner, routeId := id, count := count, check := check, received := 0, rejects := 0,
      running := 0xFFFFFFFF#32, rejectList := [], clock := s.route.clock } : Route)
    (s.listens →
      (s.route.state ≠ .empty → Answers .loadOpen m s .notEmpty [] s)
      ∧ (s.route.state = .empty → (count = 0 ∨ 8192 < count) → Answers .loadOpen m s .rosterFull [] s)
      ∧ (s.route.state = .empty → 1 ≤ count → count ≤ 8192 →
          Answers .loadOpen m s .ok [] { s with route := opened .commandPort }))
    ∧ (s.link.state = .locked →
      (s.route.state ≠ .empty → exec (.routeOpen m) s = .next (answerDepot .notEmpty s.heard))
      ∧ (s.route.state = .empty → (count = 0 ∨ 8192 < count) →
          exec (.routeOpen m) s = .next (answerDepot .rosterFull s.heard))
      ∧ (s.route.state = .empty → 1 ≤ count → count ≤ 8192 →
          exec (.routeOpen m) s = .next (answerDepot .ok { s.heard with route := opened .dock })))

/-- LOAD RECORD and ROUTE RECORD: the state and owner tests, then the record counted and folded, and created or rejected by the
tests of a candidate (R31, R32, R33, R34, R29). -/
def Obligations.LoadRecordIsTaken : Prop :=
  ∀ (s : State) (image : List Byte), image.length = 17 →
    let im := loadImageOf image
    let taken : Route := { s.route with
      received := min 65535 (s.route.received + 1), running := crc32Fold s.route.running image }
    let rejected := fun (why : Status) => ({ taken with
      rejects := min 65535 (s.route.rejects + 1)
      rejectList := if s.route.rejectList.length < 64
        then s.route.rejectList ++ [{ arrival := s.route.received, meterId := im.meterId, reason := why }]
        else s.route.rejectList } : Route)
    (s.listens →
      (s.route.state ≠ .loading → Answers .loadRecord image s .wrongRouteState [] s)
      ∧ (s.route.state = .loading → s.route.owner ≠ .commandPort → Answers .loadRecord image s .notOwner [] s)
      ∧ (∀ why, s.Laws → s.route.state = .loading → s.route.owner = .commandPort → validate s im = some why →
          Answers .loadRecord image s why [] { s with route := rejected why })
      ∧ (s.Laws → s.route.state = .loading → s.route.owner = .commandPort → validate s im = none →
          ∃ slot t, Answers .loadRecord image s .ok (beBytes 2 slot) t ∧ Created im slot s t
            ∧ t = { s with roster := t.roster, seg := t.seg, port.causes := t.port.causes, route := taken }))
    ∧ (s.link.state = .locked →
      (s.route.state ≠ .loading → exec (.routeRecord image) s = .next (answerDepot .wrongRouteState s.heard))
      ∧ (s.route.state = .loading → s.route.owner ≠ .dock →
          exec (.routeRecord image) s = .next (answerDepot .notOwner s.heard))
      ∧ (∀ why, s.Laws → s.route.state = .loading → s.route.owner = .dock → validate s im = some why →
          exec (.routeRecord image) s = .next { s.heard with route := rejected why })
      ∧ (s.Laws → s.route.state = .loading → s.route.owner = .dock → validate s im = none →
          ∃ slot t, exec (.routeRecord image) s = .next t ∧ Created im slot s t
            ∧ t = { s.heard with roster := t.roster, seg := t.seg, port.causes := t.port.causes, route := taken }))

/-- LOAD SEAL and ROUTE SEAL: the state and owner tests, then READY when the three tests hold and LOAD_FAULT otherwise, with LOAD_DONE
raised in both outcomes (R36, R31, R29). That the running check register itself keeps its value is the model's choice (log entry
24). -/
def Obligations.LoadIsSealed : Prop :=
  ∀ s : State,
    let t1 := decide (s.route.received = s.route.count)
    let t2 := decide (s.route.rejects = 0)
    let t3 := decide (~~~ s.route.running = s.route.check)
    let st : RouteState := if t1 && t2 && t3 then .ready else .loadFault
    let sealed := fun (s : State) =>
      ({ s with route.state := st, port.causes := s.port.causes ||| attLoadDone } : State)
    (s.listens →
      (s.route.state ≠ .loading → Answers .loadSeal [] s .wrongRouteState [] s)
      ∧ (s.route.state = .loading → s.route.owner ≠ .commandPort → Answers .loadSeal [] s .notOwner [] s)
      ∧ (s.route.state = .loading → s.route.owner = .commandPort →
          Answers .loadSeal [] s .ok
            [BitVec.ofNat 8 st.code,
             BitVec.ofNat 8 ((if t1 then 1 else 0) + (if t2 then 2 else 0) + (if t3 then 4 else 0))] (sealed s)))
    ∧ (s.link.state = .locked →
      (s.route.state ≠ .loading → exec .routeSeal s = .next (answerDepot .wrongRouteState s.heard))
      ∧ (s.route.state = .loading → s.route.owner ≠ .dock → exec .routeSeal s = .next (answerDepot .notOwner s.heard))
      ∧ (s.route.state = .loading → s.route.owner = .dock →
          exec .routeSeal s = .next (answerDepot .ok (sealed s.heard))))

/-- ROUTE BEGIN in READY starts the drive: ACTIVE, the clock at 0, no window applied, every visited mark clear (R39, R147).
ROUTE CLOSE and CLOSE ROUTE in ACTIVE: CLOSED, the EXPECTED records NOT_READ and counted read, every segment that is not
VACANT CLOSED, the windows zero and the Revisit List empty (R42, R148). -/
def Obligations.RouteBeginsAndCloses : Prop :=
  (∀ s : State, s.listens →
     (s.route.state ≠ .ready → Answers .routeBegin [] s .wrongRouteState [] s)
     ∧ (s.route.state = .ready → s.tablesLaw →
         ∃ t, Answers .routeBegin [] s .ok [] t
           ∧ t = { s with
               route := { s.route with state := .active, clock := 0 }
               seg := { s.seg with table := t.seg.table, applied := { startA := 0, startB := 0, depth := 0, split := 0 } } }
           ∧ ∀ n, t.segAt n = { s.segAt n with visited := false }))
  ∧ (∀ s : State,
       let closes := fun (from' t : State) =>
         t = { from' with
             route.state := .closed
             roster.slots := s.roster.slots.map (fun e =>
               (e.1, { e.2 with state := if e.2.state = .expected then .notRead else e.2.state }))
             seg := { table := t.seg.table } }
         ∧ ∀ n, n < 1024 → t.segAt n = { s.segAt n with
             read := (s.segAt n).members
             state := if (s.segAt n).state = .vacant then .vacant else .closed
             deadline := none }
       (s.listens →
         (s.route.state ≠ .active → Answers .routeClose [] s .wrongRouteState [] s)
         ∧ (s.Laws → s.route.state = .active → ∃ t, Answers .routeClose [] s .ok [] t ∧ closes s t))
       ∧ (s.link.state = .locked →
         (s.route.state ≠ .active → exec .closeRoute s = .next (answerDepot .wrongRouteState s.heard))
         ∧ (s.Laws → s.route.state = .active →
             ∃ t, exec .closeRoute s = .next (answerDepot .ok t) ∧ closes s.heard t)))

/-- ROUTE DISCARD and ROUTE ABORT: their checks in order, and the route thrown away with the roster, the queue, the chain and the
Segment Table, a running computation marked departed and a pass moved past the end (R44, R45, R17, R90, R182). -/
def Obligations.RouteIsThrownAway : Prop :=
  ∀ s : State,
    let bare := fun (s : State) => ({ s with
      roster := { slots := [], index := [] }
      eval := { running := s.eval.running.map (fun c => { c with departed := true }), queue := [] }
      chain := []
      route := { state := .empty, owner := .none, routeId := 0#32, count := 0, check := 0#32, received := 0, rejects := 0,
                 running := 0xFFFFFFFF#32, rejectList := [], clock := 0 }
      seg := { table := [], staged := {}, applied := {}, revisit := [] }
      upload.cursor := if s.upload.state = .passing then none else s.upload.cursor } : State)
    (s.listens →
      (s.route.state = .empty → Answers .routeDiscard [] s .wrongRouteState [] s)
      ∧ (s.route.state ≠ .empty → s.upload.table ≠ [] → Answers .routeDiscard [] s .uploadBusy [] s)
      ∧ (s.route.state ≠ .empty → s.upload.table = [] → Answers .routeDiscard [] s .ok [] (bare s)))
    ∧ (s.link.state = .locked →
      let hostLoad := s.route.state = .loading ∧ s.route.owner = .commandPort
      (s.route.state = .empty → exec .routeAbort s = .next (answerDepot .wrongRouteState s.heard))
      ∧ (hostLoad → exec .routeAbort s = .next (answerDepot .notOwner s.heard))
      ∧ (s.route.state ≠ .empty → ¬ hostLoad → s.upload.table ≠ [] →
          exec .routeAbort s = .next (answerDepot .uploadBusy s.heard))
      ∧ (s.route.state ≠ .empty → ¬ hostLoad → s.upload.table = [] →
          exec .routeAbort s = .next (answerDepot .ok (bare s.heard))))

/-! ## The dock link -/

/-- An offered frame joins the transmit queue while fewer of its kind wait than its places: four for LOAD STATUS and UPLOAD
BLOCK, one for every other kind; otherwise it is not kept (R159). A LOAD STATUS carries what R29 lists, and is offered in
LOCKED alone. SYNC_INTERVAL_EXPIRY offers a part SYNC with the link state in ACQUIRING, LOCKED and CHECKING, and none in
DETACHED (R160). -/
def Obligations.FramesAreOffered : Prop :=
  ((∀ (f : Frame) (s : State),
     let places := if f.typ = 0x92#8 ∨ f.typ = 0x93#8 then 4 else 1
     (s.link.waiting f.typ < places → offer f s = { s with link.txQueue := s.link.txQueue ++ [f] })
     ∧ (places ≤ s.link.waiting f.typ → offer f s = s))
   ∧ (∀ (st : Status) (s : State),
     (s.link.state ≠ .locked → answerDepot st s = s)
     ∧ (s.link.state = .locked → answerDepot st s
         = offer { typ := 0x92#8
                   payload := [BitVec.ofNat 8 st.code, BitVec.ofNat 8 s.route.state.code] ++ beBytes 4 s.route.routeId.toNat
                     ++ beBytes 2 s.route.count ++ beBytes 2 s.route.received ++ beBytes 2 s.route.rejects
                     ++ beBytes 2 s.rosterCount } s)))
  ∧ (∀ s : State,
       (s.link.state = .detached → exec .syncIntervalExpiry s = .next s)
       ∧ (s.link.state ≠ .detached → 1 ≤ s.link.waiting typPartSync → exec .syncIntervalExpiry s = .next s)
       ∧ (s.link.state ≠ .detached → s.link.waiting typPartSync = 0 →
           exec .syncIntervalExpiry s
             = .next { s with link.txQueue :=
                 s.link.txQueue ++ [{ typ := 0x90#8, payload := [BitVec.ofNat 8 s.link.state.code] }] }))

/-- DOCK_PRESENT_RISE in DETACHED, SYNC in every link state with the lock at the fourth of a run, UNIT STATUS offered and
DOCK_CHANGE raised (R152, R155, R156, R158, R162), and FRAME_SEND of the oldest frame (R159; its moment is the model's
choice, log entry 12). -/
def Obligations.LinkIsAcquired : Prop :=
  ∀ s : State,
    (s.listens → s.link.state = .detached →
      exec .dockPresentRise s
        = .next { s with dockPresent := true, link := { s.link with state := .acquiring, syncRun := 0, receiver := .hunt } })
    ∧ (¬ (s.listens ∧ s.link.state = .detached) → exec .dockPresentRise s = .next { s with dockPresent := true })
    ∧ (s.link.state = .detached → exec .sync s = .next s)
    ∧ (s.link.state = .acquiring → s.link.syncRun < 3 →
        exec .sync s = .next { s with link := { s.link with syncRun := s.link.syncRun + 1, receiver := .hunt } })
    ∧ (s.link.state = .acquiring → 3 ≤ s.link.syncRun →
        let link : Link := { s.link with state := .locked, syncRun := 0, liveness := 0, receiver := .hunt }
        let unit : Frame := {
          typ := 0x91#8
          payload := beBytes 4 s.store.live.unit.toNat ++ beBytes 4 s.route.routeId.toNat ++ beBytes 1 s.route.state.code
            ++ beBytes 1 s.route.owner.code ++ beBytes 2 s.route.count ++ beBytes 2 s.route.received
            ++ beBytes 2 s.route.rejects ++ beBytes 2 s.rosterCount ++ beBytes 2 s.chain.length
            ++ beBytes 1 s.link.held.code ++ beBytes 2 s.link.errors }
        exec .sync s = .next { offer unit { s with link := link } with port.causes := s.port.causes ||| attDockChange })
    ∧ (s.link.state = .locked ∨ s.link.state = .checking → exec .sync s = .next s.heard)
    ∧ (s.link.txQueue = [] → exec .frameSend s = .next { s with link.sending := none })
    ∧ (∀ f rest, s.link.txQueue = f :: rest →
        exec .frameSend s = .next { s with link.sending := some f, link.txQueue := rest })

/-- CHECK START, CHECK PATTERN and CHECK END: the check accepted with no block outstanding and refused otherwise, patterns counted and
compared in CHECKING, and the end with its result (R158, R161, R162, R163). -/
def Obligations.LinkCheckIsRun : Prop :=
  ∀ (s : State) (payload : List Byte), payload.length = 64 →
    let result := fun (verdict : Byte) (s : State) => ({
      typ := 0x95#8
      payload := verdict :: BitVec.ofNat 8 s.link.held.code :: (beBytes 2 s.link.errors ++ beBytes 2 s.link.patterns) } : Frame)
    (s.link.state = .locked → s.upload.table = [] →
      exec .checkStart s
        = .next { s.heard with link := { s.heard.link with state := .checking, held := .none, errors := 0, patterns := 0 } })
    ∧ (s.link.state = .locked → s.upload.table ≠ [] → exec .checkStart s = .next (offer (result 2#8 s) s.heard))
    ∧ (s.link.state = .locked → exec (.checkPattern payload) s = .next s.heard ∧ exec .checkEnd s = .next s.heard)
    ∧ (s.link.state = .checking →
        exec (.checkPattern payload) s
          = .next { s.heard with link := { s.heard.link with
              patterns := if s.link.patterns < 65535 then s.link.patterns + 1 else 65535
              errors := if ∀ n : Fin 64, byteAt payload n = BitVec.ofNat 8 n ^^^ 0xA5#8 then s.link.errors
                else if s.link.errors < 65535 then s.link.errors + 1 else 65535 } })
    ∧ (s.link.state = .checking →
        let pass := decide (s.link.errors = 0)
        let t : State := { s.heard with link := { s.heard.link with
          state := .locked, held := if pass then .pass else .fail } }
        exec .checkEnd s
          = .next { offer (result (if pass then 0#8 else 1#8) t) t with port.causes := s.port.causes ||| attCheckDone })

/-- Outside LOCKED no message reaches its owner: DETACHED ignores the line; in ACQUIRING every message but SYNC, and an unusable frame,
clears the SYNC run; in CHECKING each is a check error (R152, R155, R158, R162). -/
def Obligations.ArrivalsOutsideTheLock : Prop :=
  ∀ (s : State) (p10 p17 p2 p64 bad : List Byte) (typ : Byte) (m : Instr),
    p10.length = 10 → p17.length = 17 → p2.length = 2 → p64.length = 64 → isMessage typ bad = false →
    let errors := if s.link.errors < 65535 then s.link.errors + 1 else 65535
    (s.link.state = .detached →
      m ∈ ownedMessages p10 p17 p2 ++ [.checkPattern p64, .checkEnd, .unusableFrame typ bad] → exec m s = .next s)
    ∧ (s.link.state = .acquiring →
      m ∈ ownedMessages p10 p17 p2 ++ [.checkPattern p64, .checkEnd, .unusableFrame typ bad] →
      exec m s = .next { s with link.syncRun := 0, link.receiver := .hunt })
    ∧ (s.link.state = .checking → m ∈ ownedMessages p10 p17 p2 →
      exec m s = .next { s.heard with link.errors := errors })
    ∧ (s.link.state = .checking →
      exec (.unusableFrame typ bad) s
        = .next { s.heard with link := { s.heard.link with
            errors := errors
            patterns := if typ = 0x1A#8 then (if s.link.patterns < 65535 then s.link.patterns + 1 else 65535)
              else s.link.patterns } })
    ∧ (s.link.state = .locked → exec (.unusableFrame typ bad) s = .next s.heard)

/-- The receiver reads every frame back: the bytes on the line of any frame of at most 1023 payload bytes, delimiter bytes
within it included, complete exactly one valid arrival of its type and payload and leave the receiver in HUNT (R153, R154, 12.3,
R209). -/
def Obligations.ReceiverReadsEveryFrame : Prop :=
  ∀ f : Frame, f.payload.length ≤ 1023 →
    receiveLine (f.lineBytes.map (fun b => { val := b, fault := false })) = (.hunt, [.valid f.typ f.payload])

/-- ERRORED_FRAME: a frame with a byte of line fault, with a CRC that does not match, or cut short before the gap, or one whose
length field is above 1023, which ends at its length bytes whatever follows, does not refresh the liveness; it clears the
SYNC run in ACQUIRING and is a check error in CHECKING (R153, R154, R155, R158, R162). The bytes come with the idle line
after them (log entry 8). -/
def Obligations.ErroredFrameIsCounted : Prop :=
  let counted := fun (line : List RxByte) (s : State) =>
    (s.link.state = .detached ∨ s.link.state = .locked → exec (.erroredFrame line) s = .next s)
    ∧ (s.link.state = .acquiring → exec (.erroredFrame line) s = .next { s with link.syncRun := 0 })
    ∧ (s.link.state = .checking →
        exec (.erroredFrame line) s
          = .next { s with link.errors := if s.link.errors < 65535 then s.link.errors + 1 else 65535 })
  (∀ (s : State) (f : Frame) (crc : List Byte) (k : Nat) (faults : List Bool),
     f.payload.length ≤ 1023 → crc.length = 4 →
     let whole := f.typ :: (beBytes 2 f.payload.length ++ f.payload ++ crc)
     let part := whole.take k
     faults.length = part.length →
     (k < whole.length ∨ faults.any (fun x => x) = true ∨ beNat crc ≠ (crc32 f.body).toNat) →
     s.link.receiver = .hunt →
     counted ({ val := 0x7E#8, fault := false } :: (part.zip faults).map (fun x => { val := x.1, fault := x.2 })) s)
  ∧ (∀ (s : State) (typ high low : RxByte) (rest : List RxByte),
       1023 < 256 * high.val.toNat + low.val.toNat → (∀ b ∈ rest, b.val ≠ 0x7E#8) → s.link.receiver = .hunt →
       receiveLine [{ val := 0x7E#8, fault := false }, typ, high, low] = (.hunt, [.errored])
       ∧ counted ({ val := 0x7E#8, fault := false } :: typ :: high :: low :: rest) s)

/-! ## The upload -/

/-- UPLOAD REQUEST, UPLOAD STOP and END_OF_PASS in LOCKED: a pass starts in IDLE with the route ACTIVE or CLOSED, and stops
into DRAINING; other requests and stops are counted ignored (R168, R169); an ended pass offers UPLOAD END, raises
UPLOAD_DONE and leaves the engine IDLE (R179). An end whose conditions do not hold is not made, nor is one outside LOCKED, above
all during a check (R181): nothing changes (log entry 6). -/
def Obligations.PassesStartAndEnd : Prop :=
  (∀ s : State, s.link.state ≠ .locked → exec .endOfPass s = .next s)
  ∧ ∀ s : State, s.link.state = .locked →
    let ignored := fun (s : State) =>
      ({ s with upload.ignored := if s.upload.ignored < 65535 then s.upload.ignored + 1 else 65535 } : State)
    let starts := s.upload.state = .idle ∧ (s.route.state = .active ∨ s.route.state = .closed)
    let ends := ((s.upload.state = .passing ∧ s.upload.cursor = none) ∨ s.upload.state = .draining) ∧ s.upload.table = []
    (starts → exec .uploadRequest s
      = .next { s.heard with upload := { s.upload with
          state := .passing, cursor := some 0, sent := 0, retired := 0, returned := 0 } })
    ∧ (¬ starts → exec .uploadRequest s = .next (ignored s.heard))
    ∧ (s.upload.state = .passing → exec .uploadStop s = .next { s.heard with upload.state := .draining })
    ∧ (s.upload.state ≠ .passing → exec .uploadStop s = .next (ignored s.heard))
    ∧ (ends → exec .endOfPass s
        = .next { offer { typ := 0x94#8
                          payload := beBytes 2 s.upload.sent ++ beBytes 2 s.upload.retired ++ beBytes 2 s.upload.returned } s with
            upload.state := .idle, port.causes := s.port.causes ||| attUploadDone })
    ∧ (¬ ends → exec .endOfPass s = .next s)

/-- ASSEMBLY: while PASSING with the cursor at a slot, fewer than four blocks out and the link LOCKED, the first sixteen
eligible records from the cursor up become one block: CARRIED with its number, an entry with the live timeout, an UPLOAD
BLOCK offered; with none eligible the cursor alone moves past the end (R170, R171, R172). Where one of the four conditions does
not hold, above all during a check (R181), no assembly is made and nothing changes (log entry 6). -/
def Obligations.AssemblyMakesABlock : Prop :=
  (∀ s : State,
     s.upload.state ≠ .passing ∨ s.upload.cursor = none ∨ 4 ≤ s.upload.table.length ∨ s.link.state ≠ .locked →
     exec .assembly s = .next s)
  ∧ ∀ (s : State) (cursor : Nat), s.tablesLaw → s.upload.cursor = some cursor → s.upload.state = .passing →
    s.upload.table.length < 4 → s.link.state = .locked →
    let ready := fun (r : Record) =>
      r.upload = .idle
      ∧ ((s.route.state = .active ∧ (r.state = .read ∨ r.state = .reviewed) ∧ r.eval = .done)
        ∨ (s.route.state = .closed
            ∧ (r.state = .notRead ∨ ((r.state = .read ∨ r.state = .reviewed ∨ r.state = .flagged) ∧ r.eval = .done))))
    let taken := (s.roster.slots.filter (fun e => decide (cursor ≤ e.1 ∧ ready e.2))).take 16
    let next : Option Nat := if taken.length = 16
      then (taken.getLast?.bind fun e => if e.1 = 8191 then none else some (e.1 + 1)) else none
    (taken = [] → exec .assembly s = .next { s with upload.cursor := none })
    ∧ (taken ≠ [] →
        ∃ t, exec .assembly s
            = .next (offer { typ := 0x93#8
                             payload := s.upload.nextBlock :: (beBytes 4 s.route.routeId.toNat ++ beBytes 1 taken.length
                               ++ taken.flatMap (fun e => e.2.image)) } t)
          ∧ t = { s with
              roster.slots := s.roster.slots.map (fun e =>
                (e.1, if e ∈ taken then { e.2 with upload := .carried s.upload.nextBlock false } else e.2))
              upload := { s.upload with
                cursor := next
                nextBlock := s.upload.nextBlock + 1#8
                table := s.upload.table ++
                  [{ block := s.upload.nextBlock, slots := taken.map (fun e => e.1), tenths := s.store.live.timeout }]
                sent := if s.upload.sent < 65535 then s.upload.sent + 1 else 65535 } })

/-- BLOCK ACK of a block that is not outstanding is a stray, and a REFUSE, or any verdict but ACCEPT, returns the block's
records to IDLE and counts them returned (R176, R177). BLOCK_EXPIRY of an entry that the next tenth brings to 0 returns its
records and counts the timeout (R178); not due it is not made (log entry 5). Where a number recurs the oldest entry is meant
(log entry 23). -/
def Obligations.BlocksReturnOrStray : Prop :=
  (∀ (s : State) (block verdict : Byte), s.link.state = .locked →
     ((∀ o ∈ s.upload.table, o.block ≠ block) →
       exec (.blockAck [block, verdict]) s
         = .next { s.heard with upload.strays := if s.upload.strays < 65535 then s.upload.strays + 1 else 65535 })
     ∧ (∀ o, s.Laws → s.upload.table.find? (fun x => x.block == block) = some o → verdict ≠ 1#8 →
         exec (.blockAck [block, verdict]) s
           = .next { s.heard with
               roster.slots := s.roster.slots.map (fun e => (e.1, if e.1 ∈ o.slots then { e.2 with upload := .idle } else e.2))
               upload := { s.upload with
                 table := s.upload.table.erase o
                 returned := min 65535 (s.upload.returned + o.slots.length) } }))
  ∧ (∀ (s : State) (block : Byte),
       (s.upload.table.find? (fun o => o.block == block && decide (o.tenths ≤ 1)) = none →
         exec (.blockExpiry block) s = .next s)
       ∧ (∀ o, s.Laws → s.upload.table.find? (fun o => o.block == block && decide (o.tenths ≤ 1)) = some o →
           exec (.blockExpiry block) s
             = .next { s with
                 roster.slots := s.roster.slots.map (fun e => (e.1, if e.1 ∈ o.slots then { e.2 with upload := .idle } else e.2))
                 upload := { s.upload with
                   table := s.upload.table.erase o
                   returned := min 65535 (s.upload.returned + o.slots.length)
                   timeouts := min 65535 (s.upload.timeouts + 1) } }))

/-- BLOCK ACK with ACCEPT: each record of the block is retired, or returned with its mark cleared when it is superseded; the
counts, the chain, the queue and the entry follow; the segments lose the retired records, none of them EXPECTED, so that no
segment completes and the Revisit List stands; a CLOSED route whose last record leaves becomes EMPTY, with the cursor of a
pass moved past the end; all else stays as it was (R175, R16, R46, R126, R128, R148, R182). Where a number recurs the oldest
entry is meant (log entry 23). -/
def Obligations.AcceptedBlockRetiresItsRecords : Prop :=
  ∀ (s : State) (block : Byte) (o : Outstanding),
    s.Laws → s.link.state = .locked → s.upload.table.find? (fun x => x.block == block) = some o →
    let stays := fun (n : Nat) => (s.recordAt n).any (fun r => r.upload.isSuperseded)
    let leaves := fun (n : Nat) => decide (n ∈ o.slots) && !stays n
    let kept := s.roster.slots.filter (fun e => !leaves e.1)
    let lost := fun (n : Nat) => s.roster.slots.filter (fun e => leaves e.1 && decide (e.2.segment = n))
    let returns := s.route.state = .closed ∧ kept = []
    ∃ t, exec (.blockAck [block, 1#8]) s = .next t
      ∧ t.roster.slots = kept.map (fun e => (e.1, if e.1 ∈ o.slots then { e.2 with upload := .idle } else e.2))
      ∧ t.roster.index = s.roster.index.filter (fun w => !leaves w.2)
      ∧ t.chain = s.chain.filter (fun n => !leaves n)
      ∧ t.eval.queue = s.eval.queue.filter (fun n => !leaves n)
      ∧ t.eval.running = s.eval.running.map (fun c => if leaves c.slot then { c with departed := true } else c)
      ∧ t.upload = { s.upload with
          table := s.upload.table.erase o
          retired := min 65535 (s.upload.retired + (o.slots.filter leaves).length)
          returned := min 65535 (s.upload.returned + (o.slots.filter stays).length)
          cursor := if returns ∧ s.upload.state = .passing then none else s.upload.cursor }
      ∧ (returns → t.route = {} ∧ t.seg = {})
      ∧ (¬ returns → t.route = s.route ∧ t.seg = { s.seg with table := t.seg.table }
          ∧ ∀ n, t.segAt n = { s.segAt n with
              members := (s.segAt n).members - (lost n).length
              read := (s.segAt n).read - (lost n).length
              flagged := (s.segAt n).flagged - ((lost n).filter (fun e => decide (e.2.state = .flagged))).length
              state := if lost n ≠ [] ∧ (s.segAt n).state ≠ .closed ∧ (s.segAt n).members = (lost n).length then .vacant
                else (s.segAt n).state })
      ∧ t = { s with
          roster := t.roster, route := t.route, eval := t.eval, chain := t.chain, seg := t.seg, upload := t.upload,
          link := s.heard.link }

/-! ## The Command Port, the settings and the lines -/

/-- A transaction that the port does not take is discarded; a wrong length is answered BAD_LENGTH with the code and the
count carried, and an unknown code UNKNOWN_COMMAND with the code, and nothing reaches an owner (R186, R187, R188). The mark
of a dropped transaction and the record of MISO are the model's (log entries 13, 14). -/
def Obligations.PortJudgesTransactions : Prop :=
  ∀ (s : State) (tx : Tx) (code : Byte),
    (∀ h ∈ hostRows, (¬ s.listens ∨ tx.dropped = true) → exec (h.row tx) s = .next s)
    ∧ ((¬ s.listens ∨ tx.dropped = true) → exec (.unknownCommand code tx) s = .next s)
    ∧ (∀ h ∈ hostRows, s.listens → tx.dropped = false →
        (tx.rest = [] ∨ tx.partialEnd = true
          ∨ ∃ n args, tx.rest = n :: args ∧ (args.length ≠ n.toNat ∨ n.toNat ≠ h.len)) →
        exec (h.row tx) s
          = .next { s with
              port.buffer := some ⟨.badLength, [h.code, BitVec.ofNat 8 (min 255 (tx.rest.length - 1))]⟩
              port.miso := List.replicate (1 + tx.rest.length) 0xFF#8 })
    ∧ (s.listens → tx.dropped = false → code ≠ 0xF0#8 → (∀ h ∈ hostRows, h.code ≠ code) →
        exec (.unknownCommand code tx) s
          = .next { s with
              port.buffer := some ⟨.unknownCommand, [code]⟩
              port.miso := List.replicate (1 + tx.rest.length) 0xFF#8 })

/-- RESPONSE: MISO carries fill at the code byte, then status, length and data, then fill; the buffer becomes EMPTY when the
whole response was clocked, and stays HELD otherwise; an EMPTY buffer reads NONE with length 0; one that the port does not
take is discarded (R189, R186; log entries 13, 14). -/
def Obligations.ResponseReadsTheBuffer : Prop :=
  ∀ (s : State) (n : Nat),
    (¬ s.listens → exec (.response n false) s = .next s) ∧ exec (.response n true) s = .next s
    ∧ (s.listens → s.port.buffer = none →
        exec (.response n false) s
          = .next { s with port.miso :=
              (0xFF#8 :: (0x02#8 :: 0x00#8 :: List.replicate n 0xFF#8).take n) })
    ∧ (∀ st data, s.listens → s.port.buffer = some ⟨st, data⟩ →
        let bytes := BitVec.ofNat 8 st.code :: BitVec.ofNat 8 data.length :: data
        exec (.response n false) s
          = .next { s with
              port.miso := 0xFF#8 :: (bytes ++ List.replicate n 0xFF#8).take n
              port.buffer := if 2 + data.length ≤ n then none else some ⟨st, data⟩ })

/-- STATUS reports the items of Table 12-6 and changes nothing; READ CAUSES hands over the pending set and the mask and
empties the set; CHANNEL STATS reads a channel's enable, occupancy and thirteen counters and clears the counters with a non-
zero selector (R191, R194, R61, R62). The code of the enable byte is the model's choice (log entry 25). -/
def Obligations.StandingIsReported : Prop :=
  ∀ (s : State) (ch sel : Byte), s.listens →
    let slot := fun (n : Option Nat) => beBytes 2 (n.getD 65535)
    Answers .status [] s .ok
      ([BitVec.ofNat 8 s.route.state.code, BitVec.ofNat 8 s.route.owner.code] ++ beBytes 4 s.route.routeId.toNat
        ++ beBytes 2 s.route.count ++ beBytes 2 s.route.received ++ beBytes 2 s.route.rejects ++ beBytes 3 s.route.clock
        ++ beBytes 2 s.rosterCount ++ beBytes 2 s.eval.queue.length ++ slot (s.eval.running.map (fun c => c.slot))
        ++ beBytes 2 s.chain.length ++ beBytes 2 s.seg.revisit.length
        ++ [BitVec.ofNat 8 s.link.state.code, BitVec.ofNat 8 s.link.held.code] ++ beBytes 2 s.link.errors
        ++ [BitVec.ofNat 8 s.upload.state.code] ++ slot s.upload.cursor ++ beBytes 1 s.upload.table.length
        ++ beBytes 2 s.upload.sent ++ beBytes 2 s.upload.retired ++ beBytes 2 s.upload.returned
        ++ beBytes 2 s.upload.timeouts ++ beBytes 2 s.upload.strays ++ beBytes 2 s.upload.ignored
        ++ [BitVec.ofNat 8 ((if s.store.commit.isSome then 1 else 0) + (if s.store.defaulted then 2 else 0)
              + (if s.port.causes &&& s.store.live.mask = 0#8 then 0 else 4)),
            s.port.causes, s.store.live.mask, BitVec.ofNat 8 s.port.resetCause.code]) s
    ∧ Answers .readCauses [] s .ok [s.port.causes, s.store.live.mask] { s with port.causes := 0#8 }
    ∧ (4 ≤ ch.toNat → Answers .channelStats [ch, sel] s .notFound [] s)
    ∧ (∀ i : Fin 4, ch.toNat = i.val →
        let c := s.channels.get i
        Answers .channelStats [ch, sel] s .ok
          ([ch, if s.store.live.enables.get i then 1#8 else 0#8, BitVec.ofNat 8 c.fifo.length]
            ++ beBytes 2 c.stats.framesIn ++ beBytes 2 c.stats.crcFail ++ beBytes 2 c.stats.formatError
            ++ beBytes 2 c.stats.overrun ++ beBytes 2 c.stats.routeInactive ++ beBytes 2 c.stats.unknown
            ++ beBytes 2 c.stats.kindMismatch ++ beBytes 2 c.stats.invalidReading ++ beBytes 2 c.stats.badReading
            ++ beBytes 2 c.stats.stale ++ beBytes 2 c.stats.repeats ++ beBytes 2 c.stats.conflict
            ++ beBytes 2 c.stats.accepted)
          (if sel = 0#8 then s else { s with channels := s.channels.set i { c with stats := {} } }))

/-- SETTINGS WRITE writes the selected groups brought into range, SETTINGS COMMIT copies the live settings, its completion
writes the image, INDICATOR SET switches one line; BUSY during a commit (R201, R203, R204). A completion with no commit in
progress is not made (log entry 6). -/
def Obligations.SettingsAreWrittenAndCommitted : Prop :=
  ∀ (s : State) (sel : Byte) (bs : List Byte) (line value : Byte), bs.length = 12 →
    let old := s.store.live
    let new : Settings := { old with
      unit := if sel.getLsbD 0 then BitVec.ofNat 32 (fieldAt bs 0 4) else old.unit
      mask := if sel.getLsbD 1 then byteAt bs 4 else old.mask
      sources := if sel.getLsbD 2
        then ⟨sourceOfCode (byteAt bs 5).toNat, sourceOfCode (byteAt bs 6).toNat, sourceOfCode (byteAt bs 7).toNat,
              sourceOfCode (byteAt bs 8).toNat⟩ else old.sources
      grace := if sel.getLsbD 3 then min 127 (byteAt bs 9).toNat else old.grace
      timeout := if sel.getLsbD 4 then max 1 (min 127 (byteAt bs 10).toNat) else old.timeout
      enables := if sel.getLsbD 5
        then ⟨(byteAt bs 11).getLsbD 0, (byteAt bs 11).getLsbD 1, (byteAt bs 11).getLsbD 2, (byteAt bs 11).getLsbD 3⟩
        else old.enables }
    (s.listens → s.store.commit ≠ none →
      Answers .settingsWrite (sel :: bs) s .busy [] s ∧ Answers .settingsCommit [] s .busy [] s)
    ∧ (s.listens → s.store.commit = none →
        (∃ t, Answers .settingsWrite (sel :: bs) s .ok new.bytes t
          ∧ t = { s with store.live := new, channels := t.channels }
          ∧ ∀ ch : Fin 4, t.channels.get ch =
              if old.enables.get ch = true ∧ new.enables.get ch = false
              then { s.channels.get ch with rx := .gapWait, word := {} } else s.channels.get ch)
        ∧ Answers .settingsCommit [] s .ok []
            { s with store.commit := some { copy := old, check := imageCheck old.imageBody } })
    ∧ (s.store.commit = none → exec .settingsCommitCompletion s = .next s)
    ∧ (∀ c, s.store.commit = some c →
        exec .settingsCommitCompletion s
          = .next { s with
              store.image := .whole (c.copy.bytes ++ c.copy.profiles.toList.flatMap Profile.bytes
                ++ List.replicate 34 0#8 ++ beBytes 2 c.check)
              store.commit := none })
    ∧ (s.listens → 4 ≤ line.toNat → Answers .indicatorSet [line, value] s .notFound [] s)
    ∧ (∀ i : Fin 4, s.listens → line.toNat = i.val →
        let q := old.sources.set i (if value = 0#8 then .off else .on)
        Answers .indicatorSet [line, value] s .ok
          [BitVec.ofNat 8 q.q0.code, BitVec.ofNat 8 q.q1.code, BitVec.ofNat 8 q.q2.code, BitVec.ofNat 8 q.q3.code]
          { s with store.live.sources := q })

/-- The check of the image is the sum of bytes 0 to 253 modulo 65536, exclusive-or 0xFFFF (the difference to 65535); the image
passes exactly when bytes 254 and 255 hold it, and an array reading all 0 or all 0xFF, or one left part-written, fails. A
committed image is loaded back at the next power-on: what a commit writes passes its check and gives the copied settings
(R202, R204, R205). -/
def Obligations.CommittedImageLoadsBack : Prop :=
  (∀ body : List Byte, imageCheck body = 65535 - (body.map (fun b => b.toNat)).sum % 65536)
  ∧ (∀ bs : List Byte, bs.length = 256 →
       ((Image.whole bs).passes = true ↔
         256 * (byteAt bs 254).toNat + (byteAt bs 255).toNat
           = 65535 - ((bs.take 254).map (fun b => b.toNat)).sum % 65536))
  ∧ (Image.whole (List.replicate 256 0x00#8)).passes = false ∧ (Image.whole (List.replicate 256 0xFF#8)).passes = false
  ∧ Image.partWritten.passes = false
  ∧ ∀ t : Settings, t.inRange →
      (Image.whole (t.imageBody ++ beBytes 2 (imageCheck t.imageBody))).passes = true
      ∧ settingsOf (t.imageBody ++ beBytes 2 (imageCheck t.imageBody)) = t

/-- The pins: ATTN_N low while a pending cause is in the mask, RX_EN high while its channel is enabled, an IND line at the level of its
source or released, before the start, in a held reset, and after a RESET command until the next tenth (R193, R50, R51, R199). -/
def Obligations.PinsFollowTheState : Prop :=
  ∀ (s : State) (i : Fin 4),
    (¬ s.listens → s.attnLow = false ∧ s.rxEnable i = false ∧ s.indLevel i = .released)
    ∧ (s.listens →
        (s.attnLow = true ↔ ∃ k, k < 8 ∧ s.port.causes.getLsbD k = true ∧ s.store.live.mask.getLsbD k = true)
        ∧ s.rxEnable i = s.store.live.enables.get i
        ∧ (s.lines.indWait = true → s.indLevel i = .released)
        ∧ (s.lines.indWait = false →
            (s.indLevel i = .high ↔
              match s.store.live.sources.get i with
              | .off => False
              | .on => True
              | .flagsWaiting => s.chain ≠ []
              | .revisitWaiting => s.seg.revisit ≠ []
              | .routeActive => s.route.state = .active
              | .dockLocked => s.link.state = .locked ∨ s.link.state = .checking
              | .checkFail => s.link.held = .fail
              | .attnMirror => s.attnLow = true
              | .segmentPulse => 0 < s.lines.pulse)
            ∧ (s.indLevel i ≠ .high → s.indLevel i = .low)))
end

