-- ==== Sys2Proof/Laws/State.lean ====
section
/-! SUPPORT. What each named update of State leaves in each field: one lemma per field per update, each true by unfolding. -/

namespace Sys2Proof.Machine

/-! ## Fields after the raising of a cause (R192) -/

@[simp] theorem raise_power (cause : BitVec 8) (s : State) : (raise cause s).power = s.power := rfl
@[simp] theorem raise_resetLow (cause : BitVec 8) (s : State) : (raise cause s).resetLow = s.resetLow := rfl
@[simp] theorem raise_dockPresent (cause : BitVec 8) (s : State) : (raise cause s).dockPresent = s.dockPresent := rfl
@[simp] theorem raise_roster (cause : BitVec 8) (s : State) : (raise cause s).roster = s.roster := rfl
@[simp] theorem raise_route (cause : BitVec 8) (s : State) : (raise cause s).route = s.route := rfl
@[simp] theorem raise_channels (cause : BitVec 8) (s : State) : (raise cause s).channels = s.channels := rfl
@[simp] theorem raise_rotation (cause : BitVec 8) (s : State) : (raise cause s).rotation = s.rotation := rfl
@[simp] theorem raise_eval (cause : BitVec 8) (s : State) : (raise cause s).eval = s.eval := rfl
@[simp] theorem raise_chain (cause : BitVec 8) (s : State) : (raise cause s).chain = s.chain := rfl
@[simp] theorem raise_seg (cause : BitVec 8) (s : State) : (raise cause s).seg = s.seg := rfl
@[simp] theorem raise_link (cause : BitVec 8) (s : State) : (raise cause s).link = s.link := rfl
@[simp] theorem raise_upload (cause : BitVec 8) (s : State) : (raise cause s).upload = s.upload := rfl
@[simp] theorem raise_port (cause : BitVec 8) (s : State) :
    (raise cause s).port = { s.port with causes := s.port.causes ||| cause } := rfl
@[simp] theorem raise_store (cause : BitVec 8) (s : State) : (raise cause s).store = s.store := rfl
@[simp] theorem raise_lines (cause : BitVec 8) (s : State) : (raise cause s).lines = s.lines := rfl
@[simp] theorem raise_draws (cause : BitVec 8) (s : State) : (raise cause s).draws = s.draws := rfl
@[simp] theorem raise_pending (cause : BitVec 8) (s : State) : (raise cause s).pending = s.pending := rfl

/-! ## Fields after the response buffer taking a response (R188) -/

@[simp] theorem answer_power (st : Status) (data : List Byte) (s : State) : (answer st data s).power = s.power := rfl
@[simp] theorem answer_resetLow (st : Status) (data : List Byte) (s : State) :
    (answer st data s).resetLow = s.resetLow := rfl
@[simp] theorem answer_dockPresent (st : Status) (data : List Byte) (s : State) :
    (answer st data s).dockPresent = s.dockPresent := rfl
@[simp] theorem answer_roster (st : Status) (data : List Byte) (s : State) : (answer st data s).roster = s.roster := rfl
@[simp] theorem answer_route (st : Status) (data : List Byte) (s : State) : (answer st data s).route = s.route := rfl
@[simp] theorem answer_channels (st : Status) (data : List Byte) (s : State) :
    (answer st data s).channels = s.channels := rfl
@[simp] theorem answer_rotation (st : Status) (data : List Byte) (s : State) :
    (answer st data s).rotation = s.rotation := rfl
@[simp] theorem answer_eval (st : Status) (data : List Byte) (s : State) : (answer st data s).eval = s.eval := rfl
@[simp] theorem answer_chain (st : Status) (data : List Byte) (s : State) : (answer st data s).chain = s.chain := rfl
@[simp] theorem answer_seg (st : Status) (data : List Byte) (s : State) : (answer st data s).seg = s.seg := rfl
@[simp] theorem answer_link (st : Status) (data : List Byte) (s : State) : (answer st data s).link = s.link := rfl
@[simp] theorem answer_upload (st : Status) (data : List Byte) (s : State) : (answer st data s).upload = s.upload := rfl
@[simp] theorem answer_port (st : Status) (data : List Byte) (s : State) :
    (answer st data s).port = { s.port with buffer := some ⟨st, data⟩ } := rfl
@[simp] theorem answer_store (st : Status) (data : List Byte) (s : State) : (answer st data s).store = s.store := rfl
@[simp] theorem answer_lines (st : Status) (data : List Byte) (s : State) : (answer st data s).lines = s.lines := rfl
@[simp] theorem answer_draws (st : Status) (data : List Byte) (s : State) : (answer st data s).draws = s.draws := rfl
@[simp] theorem answer_pending (st : Status) (data : List Byte) (s : State) : (answer st data s).pending = s.pending := rfl

/-! ## Fields after an answered transaction (R186, R188) -/

@[simp] theorem answered_power (st : Status) (data args : List Byte) (s : State) :
    (answered st data args s).power = s.power := rfl
@[simp] theorem answered_resetLow (st : Status) (data args : List Byte) (s : State) :
    (answered st data args s).resetLow = s.resetLow := rfl
@[simp] theorem answered_dockPresent (st : Status) (data args : List Byte) (s : State) :
    (answered st data args s).dockPresent = s.dockPresent := rfl
@[simp] theorem answered_roster (st : Status) (data args : List Byte) (s : State) :
    (answered st data args s).roster = s.roster := rfl
@[simp] theorem answered_route (st : Status) (data args : List Byte) (s : State) :
    (answered st data args s).route = s.route := rfl
@[simp] theorem answered_channels (st : Status) (data args : List Byte) (s : State) :
    (answered st data args s).channels = s.channels := rfl
@[simp] theorem answered_rotation (st : Status) (data args : List Byte) (s : State) :
    (answered st data args s).rotation = s.rotation := rfl
@[simp] theorem answered_eval (st : Status) (data args : List Byte) (s : State) :
    (answered st data args s).eval = s.eval := rfl
@[simp] theorem answered_chain (st : Status) (data args : List Byte) (s : State) :
    (answered st data args s).chain = s.chain := rfl
@[simp] theorem answered_seg (st : Status) (data args : List Byte) (s : State) :
    (answered st data args s).seg = s.seg := rfl
@[simp] theorem answered_link (st : Status) (data args : List Byte) (s : State) :
    (answered st data args s).link = s.link := rfl
@[simp] theorem answered_upload (st : Status) (data args : List Byte) (s : State) :
    (answered st data args s).upload = s.upload := rfl
@[simp] theorem answered_port (st : Status) (data args : List Byte) (s : State) :
    (answered st data args s).port = { s.port with buffer := some ⟨st, data⟩, miso := List.replicate (args.length + 2) 0xFF#8 } := rfl
@[simp] theorem answered_store (st : Status) (data args : List Byte) (s : State) :
    (answered st data args s).store = s.store := rfl
@[simp] theorem answered_lines (st : Status) (data args : List Byte) (s : State) :
    (answered st data args s).lines = s.lines := rfl
@[simp] theorem answered_draws (st : Status) (data args : List Byte) (s : State) :
    (answered st data args s).draws = s.draws := rfl
@[simp] theorem answered_pending (st : Status) (data args : List Byte) (s : State) :
    (answered st data args s).pending = s.pending := rfl

/-! ## Fields after MISO carrying fill (R186) -/

@[simp] theorem carryFill_power (tx : Tx) (s : State) : (carryFill tx s).power = s.power := rfl
@[simp] theorem carryFill_resetLow (tx : Tx) (s : State) : (carryFill tx s).resetLow = s.resetLow := rfl
@[simp] theorem carryFill_dockPresent (tx : Tx) (s : State) : (carryFill tx s).dockPresent = s.dockPresent := rfl
@[simp] theorem carryFill_roster (tx : Tx) (s : State) : (carryFill tx s).roster = s.roster := rfl
@[simp] theorem carryFill_route (tx : Tx) (s : State) : (carryFill tx s).route = s.route := rfl
@[simp] theorem carryFill_channels (tx : Tx) (s : State) : (carryFill tx s).channels = s.channels := rfl
@[simp] theorem carryFill_rotation (tx : Tx) (s : State) : (carryFill tx s).rotation = s.rotation := rfl
@[simp] theorem carryFill_eval (tx : Tx) (s : State) : (carryFill tx s).eval = s.eval := rfl
@[simp] theorem carryFill_chain (tx : Tx) (s : State) : (carryFill tx s).chain = s.chain := rfl
@[simp] theorem carryFill_seg (tx : Tx) (s : State) : (carryFill tx s).seg = s.seg := rfl
@[simp] theorem carryFill_link (tx : Tx) (s : State) : (carryFill tx s).link = s.link := rfl
@[simp] theorem carryFill_upload (tx : Tx) (s : State) : (carryFill tx s).upload = s.upload := rfl
@[simp] theorem carryFill_port (tx : Tx) (s : State) :
    (carryFill tx s).port = { s.port with miso := List.replicate (1 + tx.rest.length) Config.fillByte } := rfl
@[simp] theorem carryFill_store (tx : Tx) (s : State) : (carryFill tx s).store = s.store := rfl
@[simp] theorem carryFill_lines (tx : Tx) (s : State) : (carryFill tx s).lines = s.lines := rfl
@[simp] theorem carryFill_draws (tx : Tx) (s : State) : (carryFill tx s).draws = s.draws := rfl
@[simp] theorem carryFill_pending (tx : Tx) (s : State) : (carryFill tx s).pending = s.pending := rfl

/-! ## Fields after the writing of a record -/

@[simp] theorem setRecord_power (n : Nat) (r : Record) (s : State) : (setRecord n r s).power = s.power := rfl
@[simp] theorem setRecord_resetLow (n : Nat) (r : Record) (s : State) : (setRecord n r s).resetLow = s.resetLow := rfl
@[simp] theorem setRecord_dockPresent (n : Nat) (r : Record) (s : State) :
    (setRecord n r s).dockPresent = s.dockPresent := rfl
@[simp] theorem setRecord_roster (n : Nat) (r : Record) (s : State) :
    (setRecord n r s).roster = { s.roster with slots := tablePut s.roster.slots n r } := rfl
@[simp] theorem setRecord_route (n : Nat) (r : Record) (s : State) : (setRecord n r s).route = s.route := rfl
@[simp] theorem setRecord_channels (n : Nat) (r : Record) (s : State) : (setRecord n r s).channels = s.channels := rfl
@[simp] theorem setRecord_rotation (n : Nat) (r : Record) (s : State) : (setRecord n r s).rotation = s.rotation := rfl
@[simp] theorem setRecord_eval (n : Nat) (r : Record) (s : State) : (setRecord n r s).eval = s.eval := rfl
@[simp] theorem setRecord_chain (n : Nat) (r : Record) (s : State) : (setRecord n r s).chain = s.chain := rfl
@[simp] theorem setRecord_seg (n : Nat) (r : Record) (s : State) : (setRecord n r s).seg = s.seg := rfl
@[simp] theorem setRecord_link (n : Nat) (r : Record) (s : State) : (setRecord n r s).link = s.link := rfl
@[simp] theorem setRecord_upload (n : Nat) (r : Record) (s : State) : (setRecord n r s).upload = s.upload := rfl
@[simp] theorem setRecord_port (n : Nat) (r : Record) (s : State) : (setRecord n r s).port = s.port := rfl
@[simp] theorem setRecord_store (n : Nat) (r : Record) (s : State) : (setRecord n r s).store = s.store := rfl
@[simp] theorem setRecord_lines (n : Nat) (r : Record) (s : State) : (setRecord n r s).lines = s.lines := rfl
@[simp] theorem setRecord_draws (n : Nat) (r : Record) (s : State) : (setRecord n r s).draws = s.draws := rfl
@[simp] theorem setRecord_pending (n : Nat) (r : Record) (s : State) : (setRecord n r s).pending = s.pending := rfl

/-! ## Fields after the writing of a segment entry -/

@[simp] theorem setSeg_power (n : Nat) (e : SegEntry) (s : State) : (setSeg n e s).power = s.power := rfl
@[simp] theorem setSeg_resetLow (n : Nat) (e : SegEntry) (s : State) : (setSeg n e s).resetLow = s.resetLow := rfl
@[simp] theorem setSeg_dockPresent (n : Nat) (e : SegEntry) (s : State) : (setSeg n e s).dockPresent = s.dockPresent := rfl
@[simp] theorem setSeg_roster (n : Nat) (e : SegEntry) (s : State) : (setSeg n e s).roster = s.roster := rfl
@[simp] theorem setSeg_route (n : Nat) (e : SegEntry) (s : State) : (setSeg n e s).route = s.route := rfl
@[simp] theorem setSeg_channels (n : Nat) (e : SegEntry) (s : State) : (setSeg n e s).channels = s.channels := rfl
@[simp] theorem setSeg_rotation (n : Nat) (e : SegEntry) (s : State) : (setSeg n e s).rotation = s.rotation := rfl
@[simp] theorem setSeg_eval (n : Nat) (e : SegEntry) (s : State) : (setSeg n e s).eval = s.eval := rfl
@[simp] theorem setSeg_chain (n : Nat) (e : SegEntry) (s : State) : (setSeg n e s).chain = s.chain := rfl
@[simp] theorem setSeg_seg (n : Nat) (e : SegEntry) (s : State) :
    (setSeg n e s).seg = { s.seg with table := putSeg s.seg.table n e } := rfl
@[simp] theorem setSeg_link (n : Nat) (e : SegEntry) (s : State) : (setSeg n e s).link = s.link := rfl
@[simp] theorem setSeg_upload (n : Nat) (e : SegEntry) (s : State) : (setSeg n e s).upload = s.upload := rfl
@[simp] theorem setSeg_port (n : Nat) (e : SegEntry) (s : State) : (setSeg n e s).port = s.port := rfl
@[simp] theorem setSeg_store (n : Nat) (e : SegEntry) (s : State) : (setSeg n e s).store = s.store := rfl
@[simp] theorem setSeg_lines (n : Nat) (e : SegEntry) (s : State) : (setSeg n e s).lines = s.lines := rfl
@[simp] theorem setSeg_draws (n : Nat) (e : SegEntry) (s : State) : (setSeg n e s).draws = s.draws := rfl
@[simp] theorem setSeg_pending (n : Nat) (e : SegEntry) (s : State) : (setSeg n e s).pending = s.pending := rfl

/-! ## Fields after a segment leaving the Revisit List (R142) -/

@[simp] theorem leaveRevisit_power (n : Nat) (s : State) : (leaveRevisit n s).power = s.power := rfl
@[simp] theorem leaveRevisit_resetLow (n : Nat) (s : State) : (leaveRevisit n s).resetLow = s.resetLow := rfl
@[simp] theorem leaveRevisit_dockPresent (n : Nat) (s : State) : (leaveRevisit n s).dockPresent = s.dockPresent := rfl
@[simp] theorem leaveRevisit_roster (n : Nat) (s : State) : (leaveRevisit n s).roster = s.roster := rfl
@[simp] theorem leaveRevisit_route (n : Nat) (s : State) : (leaveRevisit n s).route = s.route := rfl
@[simp] theorem leaveRevisit_channels (n : Nat) (s : State) : (leaveRevisit n s).channels = s.channels := rfl
@[simp] theorem leaveRevisit_rotation (n : Nat) (s : State) : (leaveRevisit n s).rotation = s.rotation := rfl
@[simp] theorem leaveRevisit_eval (n : Nat) (s : State) : (leaveRevisit n s).eval = s.eval := rfl
@[simp] theorem leaveRevisit_chain (n : Nat) (s : State) : (leaveRevisit n s).chain = s.chain := rfl
@[simp] theorem leaveRevisit_seg (n : Nat) (s : State) :
    (leaveRevisit n s).seg = { s.seg with revisit := s.seg.revisit.filter (· != n) } := rfl
@[simp] theorem leaveRevisit_link (n : Nat) (s : State) : (leaveRevisit n s).link = s.link := rfl
@[simp] theorem leaveRevisit_upload (n : Nat) (s : State) : (leaveRevisit n s).upload = s.upload := rfl
@[simp] theorem leaveRevisit_port (n : Nat) (s : State) : (leaveRevisit n s).port = s.port := rfl
@[simp] theorem leaveRevisit_store (n : Nat) (s : State) : (leaveRevisit n s).store = s.store := rfl
@[simp] theorem leaveRevisit_lines (n : Nat) (s : State) : (leaveRevisit n s).lines = s.lines := rfl
@[simp] theorem leaveRevisit_draws (n : Nat) (s : State) : (leaveRevisit n s).draws = s.draws := rfl
@[simp] theorem leaveRevisit_pending (n : Nat) (s : State) : (leaveRevisit n s).pending = s.pending := rfl

/-! ## Fields after the change of one channel -/

@[simp] theorem onChannel_power (ch : Fin 4) (f : Channel → Channel) (s : State) : (onChannel ch f s).power = s.power := rfl
@[simp] theorem onChannel_resetLow (ch : Fin 4) (f : Channel → Channel) (s : State) :
    (onChannel ch f s).resetLow = s.resetLow := rfl
@[simp] theorem onChannel_dockPresent (ch : Fin 4) (f : Channel → Channel) (s : State) :
    (onChannel ch f s).dockPresent = s.dockPresent := rfl
@[simp] theorem onChannel_roster (ch : Fin 4) (f : Channel → Channel) (s : State) :
    (onChannel ch f s).roster = s.roster := rfl
@[simp] theorem onChannel_route (ch : Fin 4) (f : Channel → Channel) (s : State) : (onChannel ch f s).route = s.route := rfl
@[simp] theorem onChannel_channels (ch : Fin 4) (f : Channel → Channel) (s : State) :
    (onChannel ch f s).channels = s.channels.set ch (f (s.channels.get ch)) := rfl
@[simp] theorem onChannel_rotation (ch : Fin 4) (f : Channel → Channel) (s : State) :
    (onChannel ch f s).rotation = s.rotation := rfl
@[simp] theorem onChannel_eval (ch : Fin 4) (f : Channel → Channel) (s : State) : (onChannel ch f s).eval = s.eval := rfl
@[simp] theorem onChannel_chain (ch : Fin 4) (f : Channel → Channel) (s : State) : (onChannel ch f s).chain = s.chain := rfl
@[simp] theorem onChannel_seg (ch : Fin 4) (f : Channel → Channel) (s : State) : (onChannel ch f s).seg = s.seg := rfl
@[simp] theorem onChannel_link (ch : Fin 4) (f : Channel → Channel) (s : State) : (onChannel ch f s).link = s.link := rfl
@[simp] theorem onChannel_upload (ch : Fin 4) (f : Channel → Channel) (s : State) :
    (onChannel ch f s).upload = s.upload := rfl
@[simp] theorem onChannel_port (ch : Fin 4) (f : Channel → Channel) (s : State) : (onChannel ch f s).port = s.port := rfl
@[simp] theorem onChannel_store (ch : Fin 4) (f : Channel → Channel) (s : State) : (onChannel ch f s).store = s.store := rfl
@[simp] theorem onChannel_lines (ch : Fin 4) (f : Channel → Channel) (s : State) : (onChannel ch f s).lines = s.lines := rfl
@[simp] theorem onChannel_draws (ch : Fin 4) (f : Channel → Channel) (s : State) : (onChannel ch f s).draws = s.draws := rfl
@[simp] theorem onChannel_pending (ch : Fin 4) (f : Channel → Channel) (s : State) :
    (onChannel ch f s).pending = s.pending := rfl

/-! ## Fields after the clearing of the SYNC run (R155) -/

@[simp] theorem clearSyncRun_power (s : State) : (clearSyncRun s).power = s.power := rfl
@[simp] theorem clearSyncRun_resetLow (s : State) : (clearSyncRun s).resetLow = s.resetLow := rfl
@[simp] theorem clearSyncRun_dockPresent (s : State) : (clearSyncRun s).dockPresent = s.dockPresent := rfl
@[simp] theorem clearSyncRun_roster (s : State) : (clearSyncRun s).roster = s.roster := rfl
@[simp] theorem clearSyncRun_route (s : State) : (clearSyncRun s).route = s.route := rfl
@[simp] theorem clearSyncRun_channels (s : State) : (clearSyncRun s).channels = s.channels := rfl
@[simp] theorem clearSyncRun_rotation (s : State) : (clearSyncRun s).rotation = s.rotation := rfl
@[simp] theorem clearSyncRun_eval (s : State) : (clearSyncRun s).eval = s.eval := rfl
@[simp] theorem clearSyncRun_chain (s : State) : (clearSyncRun s).chain = s.chain := rfl
@[simp] theorem clearSyncRun_seg (s : State) : (clearSyncRun s).seg = s.seg := rfl
@[simp] theorem clearSyncRun_link (s : State) : (clearSyncRun s).link = { s.link with syncRun := 0 } := rfl
@[simp] theorem clearSyncRun_upload (s : State) : (clearSyncRun s).upload = s.upload := rfl
@[simp] theorem clearSyncRun_port (s : State) : (clearSyncRun s).port = s.port := rfl
@[simp] theorem clearSyncRun_store (s : State) : (clearSyncRun s).store = s.store := rfl
@[simp] theorem clearSyncRun_lines (s : State) : (clearSyncRun s).lines = s.lines := rfl
@[simp] theorem clearSyncRun_draws (s : State) : (clearSyncRun s).draws = s.draws := rfl
@[simp] theorem clearSyncRun_pending (s : State) : (clearSyncRun s).pending = s.pending := rfl

/-! ## Fields after a valid frame that was heard (R153, R154) -/

@[simp] theorem heard_power (s : State) : s.heard.power = s.power := rfl
@[simp] theorem heard_resetLow (s : State) : s.heard.resetLow = s.resetLow := rfl
@[simp] theorem heard_dockPresent (s : State) : s.heard.dockPresent = s.dockPresent := rfl
@[simp] theorem heard_roster (s : State) : s.heard.roster = s.roster := rfl
@[simp] theorem heard_route (s : State) : s.heard.route = s.route := rfl
@[simp] theorem heard_channels (s : State) : s.heard.channels = s.channels := rfl
@[simp] theorem heard_rotation (s : State) : s.heard.rotation = s.rotation := rfl
@[simp] theorem heard_eval (s : State) : s.heard.eval = s.eval := rfl
@[simp] theorem heard_chain (s : State) : s.heard.chain = s.chain := rfl
@[simp] theorem heard_seg (s : State) : s.heard.seg = s.seg := rfl
@[simp] theorem heard_link (s : State) : s.heard.link = { s.link with liveness := 0, receiver := .hunt } := rfl
@[simp] theorem heard_upload (s : State) : s.heard.upload = s.upload := rfl
@[simp] theorem heard_port (s : State) : s.heard.port = s.port := rfl
@[simp] theorem heard_store (s : State) : s.heard.store = s.store := rfl
@[simp] theorem heard_lines (s : State) : s.heard.lines = s.lines := rfl
@[simp] theorem heard_draws (s : State) : s.heard.draws = s.draws := rfl
@[simp] theorem heard_pending (s : State) : s.heard.pending = s.pending := rfl

/-! ## Fields after the return of the route to EMPTY (R28, R46, R182) -/

@[simp] theorem returnToEmpty_power (s : State) : (returnToEmpty s).power = s.power := rfl
@[simp] theorem returnToEmpty_resetLow (s : State) : (returnToEmpty s).resetLow = s.resetLow := rfl
@[simp] theorem returnToEmpty_dockPresent (s : State) : (returnToEmpty s).dockPresent = s.dockPresent := rfl
@[simp] theorem returnToEmpty_roster (s : State) : (returnToEmpty s).roster = s.roster := rfl
@[simp] theorem returnToEmpty_route (s : State) : (returnToEmpty s).route = {} := rfl
@[simp] theorem returnToEmpty_channels (s : State) : (returnToEmpty s).channels = s.channels := rfl
@[simp] theorem returnToEmpty_rotation (s : State) : (returnToEmpty s).rotation = s.rotation := rfl
@[simp] theorem returnToEmpty_eval (s : State) : (returnToEmpty s).eval = s.eval := rfl
@[simp] theorem returnToEmpty_chain (s : State) : (returnToEmpty s).chain = s.chain := rfl
@[simp] theorem returnToEmpty_seg (s : State) : (returnToEmpty s).seg = {} := rfl
@[simp] theorem returnToEmpty_link (s : State) : (returnToEmpty s).link = s.link := rfl
@[simp] theorem returnToEmpty_upload (s : State) : (returnToEmpty s).upload = s.upload.passOver := rfl
@[simp] theorem returnToEmpty_port (s : State) : (returnToEmpty s).port = s.port := rfl
@[simp] theorem returnToEmpty_store (s : State) : (returnToEmpty s).store = s.store := rfl
@[simp] theorem returnToEmpty_lines (s : State) : (returnToEmpty s).lines = s.lines := rfl
@[simp] theorem returnToEmpty_draws (s : State) : (returnToEmpty s).draws = s.draws := rfl
@[simp] theorem returnToEmpty_pending (s : State) : (returnToEmpty s).pending = s.pending := rfl

end Sys2Proof.Machine
end

