-- ==== Sys2Proof/Laws/Tables.lean ====
section
/-! SUPPORT. The laws of the sparse tables (read after write, the canonical form kept), of the byte order (R208) and of the
saturating counts. -/

namespace Sys2Proof.Machine

variable {α β : Type}

/-! ## The canonical form -/

/-- Rising keys, as an order on the entries. -/
theorem tableRising_iff (m : List (Nat × α)) : tableRising m = true ↔ m.Pairwise (fun a b => a.1 < b.1) := by
  induction m with
  | nil => simp [tableRising]
  | cons e t ih =>
    obtain ⟨j, v⟩ := e
    cases t with
    | nil => simp [tableRising]
    | cons e2 t =>
      obtain ⟨k, w⟩ := e2
      simp only [tableRising, Bool.and_eq_true, decide_eq_true_eq, ih, List.pairwise_cons]
      constructor
      · rintro ⟨h, h1, h2⟩
        refine ⟨fun a ha => ?_, h1, h2⟩
        rcases List.mem_cons.1 ha with rfl | ha
        · exact h
        · exact lt_trans h (h1 a ha)
      · rintro ⟨h, h1, h2⟩
        exact ⟨h (k, w) (by simp), h1, h2⟩

/-! ## Reading -/

@[simp] theorem tableGet_nil (k : Nat) : tableGet ([] : List (Nat × α)) k = none := rfl

/-- An entry that is read stands in the table. -/
theorem mem_of_tableGet {m : List (Nat × α)} {k : Nat} {v : α} (h : tableGet m k = some v) : (k, v) ∈ m := by
  induction m with
  | nil => cases h
  | cons e t ih =>
    simp only [tableGet] at h
    split at h
    · rename_i hk
      obtain rfl : e.2 = v := by simpa using h
      subst hk
      exact List.mem_cons_self
    · exact List.mem_cons_of_mem _ (ih h)

/-- A key that is read as absent stands nowhere in the table. -/
theorem tableGet_eq_none {m : List (Nat × α)} {k : Nat} : tableGet m k = none ↔ ∀ e ∈ m, e.1 ≠ k := by
  induction m with
  | nil => simp
  | cons e t ih =>
    simp only [tableGet, List.mem_cons, forall_eq_or_imp]
    split <;> simp_all

/-- In the canonical form an entry that stands in the table is the one read. -/
theorem tableGet_of_mem {m : List (Nat × α)} {k : Nat} {v : α} (hm : tableRising m = true) (h : (k, v) ∈ m) :
    tableGet m k = some v := by
  rw [tableRising_iff] at hm
  induction m with
  | nil => cases h
  | cons e t ih =>
    obtain ⟨h1, h2⟩ := List.pairwise_cons.1 hm
    rcases List.mem_cons.1 h with rfl | h
    · simp [tableGet]
    · have := h1 _ h
      simp only [tableGet]
      rw [if_neg (by simp only at this; omega)]
      exact ih h2 h

/-- Reading a table whose values were all changed by a function of their keys. -/
theorem tableGet_map (f : Nat → α → β) (m : List (Nat × α)) (k : Nat) :
    tableGet (m.map (fun e => (e.1, f e.1 e.2))) k = (tableGet m k).map (f k) := by
  induction m with
  | nil => rfl
  | cons e t ih =>
    simp only [List.map_cons, tableGet]
    split
    · rename_i h; simp [h]
    · exact ih

/-! ## Writing -/

@[simp] theorem tableGet_put_same (m : List (Nat × α)) (k : Nat) (v : α) : tableGet (tablePut m k v) k = some v := by
  induction m with
  | nil => simp [tablePut, tableGet]
  | cons e t ih =>
    simp only [tablePut]
    split
    · simp [tableGet]
    · split
      · simp [tableGet]
      · rename_i h
        simp only [tableGet]
        rw [if_neg (fun he => h he.symm)]
        exact ih

theorem tableGet_put_other (m : List (Nat × α)) {k n : Nat} (v : α) (h : n ≠ k) :
    tableGet (tablePut m k v) n = tableGet m n := by
  induction m with
  | nil => simp [tablePut, tableGet, h.symm]
  | cons e t ih =>
    simp only [tablePut]
    split
    · simp [tableGet, h.symm]
    · split
      · rename_i hk
        simp [tableGet, h.symm, ← hk]
      · simp only [tableGet, ih]

@[simp] theorem tableGet_del_same (m : List (Nat × α)) (k : Nat) : tableGet (tableDel m k) k = none := by
  rw [tableGet_eq_none]
  simp [tableDel]

theorem tableGet_del_other (m : List (Nat × α)) {k n : Nat} (h : n ≠ k) : tableGet (tableDel m k) n = tableGet m n := by
  induction m with
  | nil => rfl
  | cons e t ih =>
    simp only [tableDel, List.filter_cons] at ih ⊢
    split
    · simp only [tableGet]; split <;> simp_all
    · rename_i hk
      have : e.1 = k := by simpa using hk
      simp only [tableGet]
      rw [if_neg (by omega)]
      exact ih

/-- The entries after a write: the one written, and those that stood there under other keys. -/
theorem mem_tablePut {m : List (Nat × α)} {k : Nat} {v : α} {e : Nat × α} (h : e ∈ tablePut m k v) :
    e = (k, v) ∨ e ∈ m := by
  induction m with
  | nil => simpa [tablePut] using h
  | cons e2 t ih =>
    simp only [tablePut] at h
    split at h
    · simpa using h
    · split at h
      · rcases List.mem_cons.1 h with h | h
        · exact .inl h
        · exact .inr (List.mem_cons_of_mem _ h)
      · rcases List.mem_cons.1 h with h | h
        · exact .inr (by rw [h]; exact List.mem_cons_self)
        · rcases ih h with h | h
          · exact .inl h
          · exact .inr (List.mem_cons_of_mem _ h)

/-- A write keeps the canonical form. -/
theorem tableRising_put {m : List (Nat × α)} (k : Nat) (v : α) (h : tableRising m = true) :
    tableRising (tablePut m k v) = true := by
  rw [tableRising_iff] at h ⊢
  induction m with
  | nil => simp [tablePut]
  | cons e t ih =>
    obtain ⟨h1, h2⟩ := List.pairwise_cons.1 h
    simp only [tablePut]
    split
    · rename_i hk
      refine List.pairwise_cons.2 ⟨fun a ha => ?_, h⟩
      rcases List.mem_cons.1 ha with rfl | ha
      · exact hk
      · exact lt_trans hk (h1 a ha)
    · split
      · rename_i hk
        exact List.pairwise_cons.2 ⟨fun a ha => by simpa [hk] using h1 a ha, h2⟩
      · refine List.pairwise_cons.2 ⟨fun a ha => ?_, ih h2⟩
        rcases mem_tablePut ha with rfl | ha
        · simp only; omega
        · exact h1 a ha

/-- A deletion keeps the canonical form. -/
theorem tableRising_del {m : List (Nat × α)} (k : Nat) (h : tableRising m = true) : tableRising (tableDel m k) = true := by
  rw [tableRising_iff] at h ⊢
  exact h.filter _

/-- A change of values alone keeps the canonical form. -/
theorem tableRising_map {m : List (Nat × α)} (f : Nat × α → β) (h : tableRising m = true) :
    tableRising (m.map (fun e => (e.1, f e))) = true := by
  rw [tableRising_iff] at h ⊢
  exact List.pairwise_map.2 (h.imp (fun h => h))

/-- A selection of entries keeps the canonical form. -/
theorem tableRising_filter {m : List (Nat × α)} (p : Nat × α → Bool) (h : tableRising m = true) :
    tableRising (m.filter p) = true := by
  rw [tableRising_iff] at h ⊢
  exact h.filter _

/-- In the canonical form, writing a key that is listed changes that entry in its place and no other. -/
theorem tablePut_listed {m : List (Nat × α)} {k : Nat} {v : α} (w : α) (hm : tableRising m = true)
    (h : tableGet m k = some v) : tablePut m k w = m.map (fun e => (e.1, if e.1 = k then w else e.2)) := by
  rw [tableRising_iff] at hm
  induction m with
  | nil => cases h
  | cons e t ih =>
    obtain ⟨h1, h2⟩ := List.pairwise_cons.1 hm
    simp only [tableGet] at h
    simp only [tablePut, List.map_cons]
    split at h
    · rename_i hk
      rw [if_neg (by omega), if_pos hk.symm, if_pos hk, hk]
      congr 1
      symm
      rw [List.map_congr_left (g := id), List.map_id]
      intro a ha
      have := h1 a ha
      rw [if_neg (by omega)]
      rfl
    · rename_i hk
      have hl : e.1 < k := h1 _ (mem_of_tableGet h)
      rw [if_neg (by omega), if_neg (by omega), if_neg hk, ih h2 h]

/-! ## The lowest free key -/

theorem firstGap_le (n : Nat) (m : List (Nat × α)) : n ≤ firstGap n m := by
  induction m generalizing n with
  | nil => exact le_refl _
  | cons e t ih =>
    simp only [firstGap]
    split
    · exact le_trans (Nat.le_succ n) (ih (n + 1))
    · exact le_refl _

/-- The lowest free key is not listed, and every key from the start to it is. -/
theorem firstGap_spec {m : List (Nat × α)} {n : Nat} (hm : tableRising m = true) (hn : ∀ e ∈ m, n ≤ e.1) :
    tableGet m (firstGap n m) = none ∧ ∀ k, n ≤ k → k < firstGap n m → tableGet m k ≠ none := by
  rw [tableRising_iff] at hm
  induction m generalizing n with
  | nil => exact ⟨rfl, fun k h1 h2 => absurd h2 (by simp only [firstGap]; omega)⟩
  | cons e t ih =>
    obtain ⟨h1, h2⟩ := List.pairwise_cons.1 hm
    simp only [firstGap]
    split
    · rename_i he
      have hlow : ∀ a ∈ t, n + 1 ≤ a.1 := fun a ha => by have := h1 a ha; omega
      obtain ⟨i1, i2⟩ := ih h2 hlow
      have hle := firstGap_le (n + 1) t
      refine ⟨?_, fun k hk1 hk2 => ?_⟩
      · simp only [tableGet]; rw [if_neg (by omega)]; exact i1
      · simp only [tableGet]
        split
        · simp
        · exact i2 k (by omega) hk2
    · rename_i he
      refine ⟨?_, fun k hk1 hk2 => absurd hk2 (by omega)⟩
      rw [tableGet_eq_none]
      intro a ha
      rcases List.mem_cons.1 ha with rfl | ha
      · exact he
      · have := h1 a ha
        have := hn e List.mem_cons_self
        omega

/-! ## Byte order (R208) -/

@[simp] theorem beBytes_length (w n : Nat) : (beBytes w n).length = w := by
  induction w with
  | zero => rfl
  | succ w ih => simp [beBytes, ih]

theorem beNat_append (a b : List Byte) : beNat (a ++ b) = beNat a * 256 ^ b.length + beNat b := by
  have go : ∀ (b : List Byte) (x : Nat),
      b.foldl (fun a c => a * 256 + c.toNat) x = x * 256 ^ b.length + b.foldl (fun a c => a * 256 + c.toNat) 0 := by
    intro b
    induction b with
    | nil => simp
    | cons c t ih =>
      intro x
      rw [List.foldl_cons, List.foldl_cons, ih, ih (0 * 256 + c.toNat), List.length_cons]
      ring
  rw [beNat, List.foldl_append, go]
  rfl

/-- A field reads back the low bytes of the number it was built from. -/
theorem beNat_beBytes (w n : Nat) : beNat (beBytes w n) = n % 256 ^ w := by
  induction w with
  | zero => simp [beBytes, beNat, Nat.mod_one]
  | succ w ih =>
    have h : beBytes (w + 1) n = [BitVec.ofNat 8 (n / 256 ^ w)] ++ beBytes w n := rfl
    rw [h, beNat_append, ih, beBytes_length]
    simp only [beNat, List.foldl_cons, List.foldl_nil, BitVec.toNat_ofNat, Nat.zero_mul, Nat.zero_add]
    rw [pow_succ 256, Nat.mod_mul, show (2 : Nat) ^ 8 = 256 from rfl, Nat.add_comm, Nat.mul_comm]

/-- A field at the head of a layout, read back. -/
theorem fieldAt_head (w n : Nat) (rest : List Byte) : fieldAt (beBytes w n ++ rest) 0 w = n % 256 ^ w := by
  have h : (beBytes w n ++ rest).take w = beBytes w n := by
    conv_lhs => rw [← beBytes_length w n]
    simp
  rw [fieldAt, List.drop_zero, h, beNat_beBytes]

/-- A field behind a prefix of a layout is the field of what follows the prefix. -/
theorem fieldAt_append (pre rest : List Byte) (off len : Nat) (h : pre.length ≤ off) :
    fieldAt (pre ++ rest) off len = fieldAt rest (off - pre.length) len := by
  rw [fieldAt, fieldAt, List.drop_append, List.drop_eq_nil_of_le h, List.nil_append]

/-! ## Saturating counts -/

/-- A saturating count is the smaller of its top and one more, whatever it stood at. -/
theorem satInc_eq_min (top n : Nat) : satInc top n = min top (n + 1) := by unfold satInc; split <;> omega

theorem satInc_le (top n : Nat) : satInc top n ≤ top := by rw [satInc_eq_min]; omega

/-- Raised once for each entry of a list, a saturating count rises by the list's length, up to its top. -/
theorem satInc_foldl {γ : Type} (l : List γ) {top n : Nat} (h : n ≤ top) :
    l.foldl (fun a _ => satInc top a) n = min top (n + l.length) := by
  induction l generalizing n with
  | nil => simp [h]
  | cons a t ih => rw [List.foldl_cons, ih (satInc_le top n), satInc_eq_min, List.length_cons]; omega

end Sys2Proof.Machine
end

