-- ==== Sys2Proof/Laws/Ops.lean ====
section
/-! SUPPORT. For each shared operation one lemma, or a few, that say once everything it does: the command wrapper, the roster,
the Segment Table, evaluation requests, the transmit queue, and the release of blocks. -/

namespace Sys2Proof.Machine

/-! ## The Command Port (R186 to R188) -/

/-- The port takes transactions exactly while the part is awake. -/
theorem listens_iff (s : State) : s.listens ↔ s.awake = true := by
  simp [State.listens, State.awake]

theorem takes_eq (s : State) (dropped : Bool) : s.takes dropped = true ↔ s.listens ∧ dropped = false := by
  simp [State.takes, listens_iff]

/-- A transaction that carries exactly the argument bytes its command requires is handed to its owner (R187). -/
theorem command_carrying {s : State} {code : Byte} {len : Nat} {owner : List Byte → State → Answer} {args : List Byte}
    (hs : s.listens) (ha : args.length = len) (hl : len < 256) :
    command code len owner (txCarrying args) s = owner args (carryFill (txCarrying args) s) := by
  have ht : s.takes (txCarrying args).dropped = true := (takes_eq _ _).2 ⟨hs, rfl⟩
  have hf : txFits (txCarrying args) len = true := by
    simp [txFits, txCarrying, ha, Nat.mod_eq_of_lt hl]
  simp only [command, ht, hf, if_true]
  rfl

/-- A transaction that the port does not take changes nothing (R186). -/
theorem command_untaken {s : State} {code : Byte} {len : Nat} {owner : List Byte → State → Answer} {tx : Tx}
    (h : ¬ s.listens ∨ tx.dropped = true) : command code len owner tx s = .next s := by
  have ht : s.takes tx.dropped = false := by
    rw [Bool.eq_false_iff, Ne, takes_eq]
    rcases h with h | h
    · exact fun k => h k.1
    · simp [h]
  simp [command, ht]

/-- A transaction that fails the length check is answered BAD_LENGTH, and nothing reaches the owner (R187). -/
theorem command_badLength {s : State} {code : Byte} {len : Nat} {owner : List Byte → State → Answer} {tx : Tx}
    (hs : s.listens) (hd : tx.dropped = false) (hf : txFits tx len = false) :
    command code len owner tx s
      = reply .badLength [code, BitVec.ofNat 8 (min 255 (txArgs tx).length)] (carryFill tx s) := by
  have ht : s.takes tx.dropped = true := (takes_eq _ _).2 ⟨hs, hd⟩
  simp [command, ht, hf]

/-- An answer after the fill of a carried transaction is an answered transaction. -/
theorem answer_carryFill (st : Status) (data args : List Byte) (s : State) :
    answer st data (carryFill (txCarrying args) s) = answered st data args s := by
  have h : 1 + (txCarrying args).rest.length = args.length + 2 := by simp [txCarrying]; omega
  simp only [answer, carryFill, answered, h]
  rfl

/-! ## Channels -/

@[simp] theorem get_set_same {α : Type} (q : Quad α) (i : Fin 4) (a : α) : (q.set i a).get i = a := by
  fin_cases i <;> rfl

theorem get_set_other {α : Type} (q : Quad α) {i j : Fin 4} (a : α) (h : j ≠ i) : (q.set i a).get j = q.get j := by
  fin_cases i <;> fin_cases j <;> first | rfl | exact absurd rfl h

/-! ## The roster (chapter 1) -/

@[simp] theorem recordAt_setRecord_same (n : Nat) (r : Record) (s : State) : (setRecord n r s).recordAt n = some r :=
  tableGet_put_same _ _ _

theorem recordAt_setRecord_other {n m : Nat} (r : Record) (s : State) (h : m ≠ n) :
    (setRecord n r s).recordAt m = s.recordAt m :=
  tableGet_put_other _ _ h

/-- Writing an occupied slot of a canonical roster changes that record in its place and no other. -/
theorem setRecord_listed {n : Nat} {r : Record} (r' : Record) {s : State} (hs : tableRising s.roster.slots = true)
    (h : s.recordAt n = some r) :
    setRecord n r' s
      = { s with roster.slots := s.roster.slots.map (fun e => (e.1, if e.1 = n then r' else e.2)) } := by
  rw [setRecord, tablePut_listed r' hs h]

/-- A lookup that finds a slot finds a record with the identifier in it (R9). -/
theorem lookup_sound {s : State} {id : Word} {slot : Nat} (h : s.lookup id = some slot) :
    ∃ r, s.recordAt slot = some r ∧ r.meterId = id := by
  obtain ⟨w, -, hw⟩ := List.exists_of_findSome?_eq_some h
  unfold State.wayMatch at hw
  split at hw
  · cases hw
  · split at hw
    · cases hw
    · rename_i r hr
      split at hw
      · rename_i hid
        obtain rfl : _ = slot := by simpa using hw
        exact ⟨r, hr, hid⟩
      · cases hw

/-- What a slot number together with a meter_id names (R18). -/
theorem named_iff {s : State} {slot : Nat} {id : Word} {r : Record} :
    s.named slot id = some r ↔ slot < 8192 ∧ s.recordAt slot = some r ∧ r.meterId = id := by
  unfold State.named
  by_cases h : slot < 8192
  · rw [if_pos (by exact h)]
    cases hr : s.recordAt slot with
    | none => simp
    | some x =>
      by_cases hx : x.meterId = id
      · simp only [if_pos hx, Option.some.injEq]
        exact ⟨fun e => ⟨h, e, e ▸ hx⟩, fun e => e.2.1⟩
      · simp only [if_neg hx, reduceCtorEq, Option.some.injEq, false_iff]
        rintro ⟨-, rfl, hid⟩
        exact hx hid
  · rw [if_neg (by exact h)]
    simp [h]

/-- The slot a new record takes is free, and every lower one is occupied (R1, R15). -/
theorem freeSlot_spec {s : State} (hs : tableRising s.roster.slots = true) :
    s.recordAt s.freeSlot = none ∧ ∀ m, m < s.freeSlot → s.recordAt m ≠ none := by
  obtain ⟨h1, h2⟩ := firstGap_spec hs (n := 0) (by simp)
  exact ⟨h1, fun m hm => h2 m (Nat.zero_le m) hm⟩

/-! ## Evaluation requests (R89) -/

/-- A request for a record that is already QUEUED changes nothing. -/
theorem requestEval_queued {s : State} {slot : Nat} {r : Record} (h : s.recordAt slot = some r) (hq : r.eval = .queued) :
    requestEval slot s = s := by
  simp [requestEval, h, hq]

/-- A request for any other record makes it QUEUED and puts its slot at the tail of the queue. -/
theorem requestEval_joins {s : State} {slot : Nat} {r : Record} (h : s.recordAt slot = some r) (hq : r.eval ≠ .queued) :
    requestEval slot s
      = { setRecord slot { r with eval := .queued } s with eval.queue := s.eval.queue ++ [slot] } := by
  simp [requestEval, h, hq]

/-! ## The Segment Table (chapter 7) -/

/-- Reading an entry of the table after a write: of the empty entry too, which is not listed. -/
theorem getD_putSeg (table : List (Nat × SegEntry)) (n m : Nat) (e : SegEntry) :
    (tableGet (putSeg table n e) m).getD {} = if m = n then e else (tableGet table m).getD {} := by
  unfold putSeg
  split
  · rename_i he
    split
    · rename_i h; subst h; simp [he]
    · rename_i h; rw [tableGet_del_other _ h]
  · split
    · rename_i h; subst h; simp
    · rename_i h; rw [tableGet_put_other _ _ h]

@[simp] theorem segAt_setSeg (n m : Nat) (e : SegEntry) (s : State) :
    (setSeg n e s).segAt m = if m = n then e else s.segAt m :=
  getD_putSeg _ _ _ _

/-- A write keeps the canonical form. -/
theorem tableRising_putSeg {table : List (Nat × SegEntry)} (n : Nat) (e : SegEntry) (h : tableRising table = true) :
    tableRising (putSeg table n e) = true := by
  unfold putSeg
  split
  · exact tableRising_del n h
  · exact tableRising_put n e h

/-- No write lists an entry equal to the empty one. -/
theorem putSeg_lists_no_empty {table : List (Nat × SegEntry)} {n : Nat} {e : SegEntry}
    (h : ∀ x ∈ table, x.2 ≠ ({} : SegEntry)) : ∀ x ∈ putSeg table n e, x.2 ≠ ({} : SegEntry) := by
  unfold putSeg
  split
  · exact fun x hx => h x (List.mem_filter.1 hx).1
  · rename_i he
    intro x hx
    rcases mem_tablePut hx with rfl | hx
    · exact he
    · exact h x hx

/-- Reading an entry after a change of every entry by a function that leaves the empty one empty. -/
theorem getD_mapSegs {f : Nat → SegEntry → SegEntry} {table : List (Nat × SegEntry)} (n : Nat)
    (hr : tableRising table = true) (hf : f n {} = {}) :
    (tableGet (mapSegs f table) n).getD {} = f n ((tableGet table n).getD {}) := by
  have hm : tableRising (table.map (fun e => (e.1, f e.1 e.2))) = true := tableRising_map (fun e => f e.1 e.2) hr
  have hg := tableGet_map f table n
  unfold mapSegs
  cases ht : tableGet table n with
  | none =>
    rw [ht] at hg
    have : tableGet ((table.map (fun e => (e.1, f e.1 e.2))).filter (fun e => e.2 != {})) n = none := by
      exact tableGet_eq_none.2 fun e he => tableGet_eq_none.1 hg e (List.mem_filter.1 he).1
    rw [this]
    simp [hf]
  | some e =>
    rw [ht] at hg
    have hmem := mem_of_tableGet hg
    by_cases he : f n e = {}
    · have : tableGet ((table.map (fun e => (e.1, f e.1 e.2))).filter (fun e => e.2 != {})) n = none := by
        rw [tableGet_eq_none]
        intro x hx hk
        obtain ⟨hx1, hx2⟩ := List.mem_filter.1 hx
        have := tableGet_of_mem hm (k := n) (v := x.2) (by rw [← hk]; exact hx1)
        rw [hg] at this
        simp only [Option.map_some, Option.some.injEq] at this
        rw [← this, he] at hx2
        simp at hx2
      rw [this]
      simp [he]
    · have : tableGet ((table.map (fun e => (e.1, f e.1 e.2))).filter (fun e => e.2 != {})) n = some (f n e) := by
        refine tableGet_of_mem (tableRising_filter _ hm) (List.mem_filter.2 ⟨hmem, ?_⟩)
        simpa using he
      rw [this]
      rfl

@[simp] theorem segAt_leaveRevisit (n m : Nat) (s : State) : (leaveRevisit n s).segAt m = s.segAt m := rfl

@[simp] theorem segAt_raise (c : BitVec 8) (m : Nat) (s : State) : (raise c s).segAt m = s.segAt m := rfl

/-- A segment that becomes MISSED: its entry, the Revisit List and the cause (R142, R146). -/
theorem missSeg_eq (n : Nat) (s : State) :
    missSeg n s
      = { s with
          seg := { s.seg with
            table := putSeg s.seg.table n { s.segAt n with state := .missed, deadline := none }
            revisit := s.seg.revisit ++ [n] }
          port.causes := s.port.causes ||| attSegmentMissed } := rfl

/-- A segment that completes: its entry, the Revisit List, the cause and the pulse (R125, R146, R200). -/
theorem completeSeg_eq (n : Nat) (s : State) :
    completeSeg n s
      = { s with
          seg := { s.seg with
            table := putSeg s.seg.table n { s.segAt n with state := .complete, deadline := none }
            revisit := s.seg.revisit.filter (· != n) }
          port.causes := s.port.causes ||| attSegmentComplete
          lines.pulse := 5 } := rfl

/-- A segment that becomes VACANT (R126). -/
theorem vacateSeg_eq (n : Nat) (s : State) :
    vacateSeg n s
      = { s with seg := { s.seg with
            table := putSeg s.seg.table n { s.segAt n with state := .vacant, deadline := none }
            revisit := s.seg.revisit.filter (· != n) } } := rfl

/-- A segment that becomes ACTIVE (R137). -/
theorem activateSeg_eq (n : Nat) (s : State) :
    activateSeg n s
      = { s with seg := { s.seg with
            table := putSeg s.seg.table n { s.segAt n with state := .active, deadline := none }
            revisit := s.seg.revisit.filter (· != n) } } := rfl

/-- A segment is settled as complete, or nothing changes (R125). -/
theorem completeIfRead_cases (n : Nat) (s : State) :
    (0 < (s.segAt n).members ∧ (s.segAt n).members ≤ (s.segAt n).read ∧ (s.segAt n).state.owes = true
        ∧ completeIfRead n s = completeSeg n s)
    ∨ (¬ (0 < (s.segAt n).members ∧ (s.segAt n).members ≤ (s.segAt n).read ∧ (s.segAt n).state.owes = true)
        ∧ completeIfRead n s = s) := by
  unfold completeIfRead
  simp only [Nat.sub_eq_zero_iff_le]
  split
  · rename_i h; exact .inl ⟨h.1, h.2.1, h.2.2, rfl⟩
  · rename_i h; exact .inr ⟨h, rfl⟩

/-- An expiry makes a TRAILING segment whose deadline is reached MISSED, or changes nothing (R140). -/
theorem expireSeg_cases (clock n : Nat) (s : State) :
    (∃ d, (s.segAt n).state = .trailing ∧ (s.segAt n).deadline = some d ∧ d ≤ clock ∧ expireSeg clock n s = missSeg n s)
    ∨ ((∀ d, (s.segAt n).state = .trailing → (s.segAt n).deadline = some d → clock < d) ∧ expireSeg clock n s = s) := by
  by_cases ht : (s.segAt n).state = .trailing
  · cases hd : (s.segAt n).deadline with
    | none => exact .inr ⟨fun d _ h => (by cases h), by simp [expireSeg, ht, hd]⟩
    | some d =>
      by_cases h : d ≤ clock
      · exact .inl ⟨d, ht, rfl, h, by simp [expireSeg, ht, hd, h]⟩
      · refine .inr ⟨fun d' _ h' => ?_, by simp [expireSeg, ht, hd, h]⟩
        obtain rfl : d = d' := by simpa using h'
        omega
  · refine .inr ⟨fun d h => absurd h ht, ?_⟩
    unfold expireSeg
    dsimp only
    split
    · rename_i h _; exact absurd h ht
    · rfl

/-- The covered set stays within the table (R132). -/
theorem covers_lt {w : Windows} {n : Nat} (h : w.covers n = true) : n < 1024 := by
  simp only [Windows.covers, Config.segmentCount, Bool.and_eq_true] at h
  exact of_decide_eq_true h.1

/-- Windows of depth 0 cover nothing. -/
theorem covers_zero (n : Nat) : ({} : Windows).covers n = false := by
  simp only [Windows.covers, Config.segmentCount]
  rw [Bool.eq_false_iff]
  simp only [ne_eq, Bool.and_eq_true, Bool.or_eq_true, decide_eq_true_eq]
  omega

/-! ## The transmit queue (R159) -/

/-- An offered frame joins the queue, or nothing changes. -/
theorem offer_cases (f : Frame) (s : State) :
    (s.link.waiting f.typ < txLimit f.typ ∧ offer f s = { s with link.txQueue := s.link.txQueue ++ [f] })
    ∨ (txLimit f.typ ≤ s.link.waiting f.typ ∧ offer f s = s) := by
  unfold offer
  split
  · rename_i h; exact .inl ⟨h, rfl⟩
  · rename_i h; exact .inr ⟨Nat.le_of_not_lt h, rfl⟩

/-- An offer changes the transmit queue alone. -/
theorem offer_frame (f : Frame) (s : State) : offer f s = { s with link.txQueue := (offer f s).link.txQueue } := by
  rcases offer_cases f s with ⟨-, h⟩ | ⟨-, h⟩ <;> rw [h]

/-- A LOAD STATUS changes the transmit queue alone (R29). -/
theorem answerDepot_frame (st : Status) (s : State) :
    answerDepot st s = { s with link.txQueue := (answerDepot st s).link.txQueue } := by
  unfold answerDepot
  split
  · exact offer_frame _ _
  · rfl

/-! ## The release of blocks (R5, R176, R178, R180) -/

/-- Releasing slots of a canonical roster makes exactly their records IDLE. -/
theorem releaseSlots_eq {s : State} (slots : List Nat) (hs : tableRising s.roster.slots = true) :
    releaseSlots slots s
      = { s with roster.slots := s.roster.slots.map (fun e => (e.1, if e.1 ∈ slots then e.2.release else e.2)) } := by
  induction slots generalizing s with
  | nil =>
    have : s.roster.slots.map (fun e => (e.1, if e.1 ∈ ([] : List Nat) then e.2.release else e.2)) = s.roster.slots := by
      simp
    rw [this]
    rfl
  | cons n t ih =>
    have step : releaseSlots (n :: t) s
        = releaseSlots t (match s.recordAt n with
            | none => s
            | some r => setRecord n r.release s) := rfl
    rw [step]
    cases h : s.recordAt n with
    | none =>
      simp only
      rw [ih hs]
      have : s.roster.slots.map (fun e => (e.1, if e.1 ∈ t then e.2.release else e.2))
          = s.roster.slots.map (fun e => (e.1, if e.1 ∈ n :: t then e.2.release else e.2)) := by
        refine List.map_congr_left fun e he => ?_
        have hne : e.1 ≠ n := tableGet_eq_none.1 h e he
        simp [hne]
      rw [this]
    | some r =>
      simp only
      rw [setRecord_listed _ hs h]
      rw [ih (tableRising_map (fun e => if e.1 = n then r.release else e.2) hs)]
      have : (s.roster.slots.map (fun e => (e.1, if e.1 = n then r.release else e.2))).map
            (fun e => (e.1, if e.1 ∈ t then e.2.release else e.2))
          = s.roster.slots.map (fun e => (e.1, if e.1 ∈ n :: t then e.2.release else e.2)) := by
        rw [List.map_map]
        refine List.map_congr_left fun e he => ?_
        simp only [Function.comp]
        by_cases hn : e.1 = n
        · have hr : e.2 = r := by
            have := tableGet_of_mem hs (k := n) (v := e.2) (by rw [← hn]; exact he)
            exact Option.some.inj (this.symm.trans h)
          simp [hn, hr, Record.release]
        · simp [hn]
      simp only [this]

/-- The abandonment of the outstanding blocks (R180, R185). -/
theorem abandonBlocks_eq {s : State} (hs : tableRising s.roster.slots = true) :
    abandonBlocks s
      = { s with
          roster.slots := s.roster.slots.map (fun e =>
            (e.1, if e.1 ∈ s.upload.table.flatMap (fun o => o.slots) then e.2.release else e.2))
          upload := { s.upload with table := [], state := .idle, cursor := some 0 } } := by
  rw [abandonBlocks, releaseSlots_eq _ hs]

end Sys2Proof.Machine
end

