-- ==== Sys2Proof/WellFormed.lean ====
section
/-! DEFINITION. Which commands can cross the part's boundary as the row they stand for. `exec` is total and gives every
command, well-formed or not, the effect its bytes have (log entry 15). -/

namespace Sys2Proof

/-- A transaction has the shape of one that SPI can clock: it is always so (R186 judges every run of bytes). -/
def Tx.wellFormed (_ : Tx) : Bool := true

/-- The bytes on the dock line, taken by a receiver in HUNT, bring an errored arrival and no valid frame (R153, R154). -/
def errorsOnly (line : List RxByte) : Bool :=
  let run := Machine.receiveLine line
  let arrivals := run.2 ++ (Machine.receiveGap run.1).2.toList
  !arrivals.isEmpty && arrivals.all (fun a => a == .errored)

/-- A command is one its row can stand for. -/
def Instr.wellFormed : Instr → Bool
  | .segmentDeadlineExpiry n => decide (n < Config.segmentCount)
  | .channelWordArrival _ bytes => !bytes.isEmpty
  | .erroredFrame line => errorsOnly line
  | .unusableFrame typ payload => !Machine.isMessage typ payload && decide (payload.length ≤ 1023)
  | .routeOpen payload => decide (payload.length = 10)
  | .routeRecord payload => decide (payload.length = 17)
  | .blockAck payload => decide (payload.length = 2)
  | .checkPattern payload => decide (payload.length = 64)
  | .unknownCommand code tx =>
    (Machine.commandLength code).isNone && decide (code ≠ Machine.codeResponse) && tx.wellFormed
  | .powerOn | .autoloadEnd | .resetNFall | .resetNRise | .tenth | .routeSecond | .segmentPulseEnd | .take
  | .evaluationStart | .evaluationCompletion | .dockPresentRise | .dockPresentFall | .livenessExpiry
  | .syncIntervalExpiry | .frameSend | .sync | .routeSeal | .routeAbort | .closeRoute | .uploadRequest | .uploadStop
  | .checkStart | .checkEnd | .blockExpiry _ | .assembly | .endOfPass | .response _ _ | .settingsCommitCompletion
  | .wordEndGap _ | .supplyFailure => true
  | .status tx | .readCauses tx | .reset tx | .lookup tx | .readSlot tx | .readNext tx | .insert tx | .amend tx
  | .retire tx | .reevaluate tx | .profileWrite tx | .profileRead tx | .loadOpen tx | .loadRecord tx | .loadSeal tx
  | .rejectRead tx | .routeBegin tx | .routeClose tx | .routeDiscard tx | .channelStats tx | .flagRead tx | .review tx
  | .reviewHead tx | .segmentRead tx | .windowStage tx | .windowDepth tx | .windowRead tx | .windowApply tx
  | .revisitRead tx | .waive tx | .settingsWrite tx | .settingsCommit tx | .indicatorSet tx => tx.wellFormed

end Sys2Proof
end

