-- ==== Sys2Proof/Tests/Slice0.lean ====
section
/-! SUPPORT. The tests of the model: ill-formed commands, worked values of the spec, single commands, and a witness for each
statement with hypotheses. -/

namespace Sys2Proof.Tests

set_option Elab.async false

open Sys2Proof.Machine

/-! ## Small states -/

/-- A started part with no route and nothing docked. -/
def up : State := { State.reset with power := .running }

/-- A record that was read, with its result. -/
def readRecord (id : Word) (segment value : Nat) (st : RecState) (ev : EvalState) (mark : UploadMark) : Record :=
  let x : Reading := { value := value, seq := 5#8, tRead := 60, channel := 1 }
  let r : Record := { meterId := id, kind := .water, profile := 0, segment := segment, baseline := 100, baselineAge := 10,
                      bandLow := 0, bandHigh := 50, state := st, reading := some x, hearCount := 1,
                      signal := some ⟨100, 100⟩,
                      generation := 1#8, eval := ev, upload := mark }
  { r with result := some (snapshotOf r x {}).result }

/-- A record that waits for its first reading. -/
def freshRecord (id : Word) (segment : Nat) : Record :=
  { meterId := id, kind := .water, profile := 0, segment := segment, baseline := 100, baselineAge := 10, bandLow := 0,
    bandHigh := 50 }

/-- A good channel word of meter 25. -/
def goodWord : List Byte := [0xA8#8, 0#8, 0#8, 0#8, 25#8, 9#8, 0#8, 0#8, 0#8, 150#8, 0#8, 0xB3#8, 0x49#8, 77#8]

/-- An ACTIVE route under a held lock: records in every upload and eval state, segments TRAILING, COMPLETE, MISSED and
ACTIVE, one word waiting, one block outstanding. -/
def demo : State :=
  { up with
    dockPresent := true
    roster := {
      slots := [(0, readRecord 24#32 3 120 .read .done (.carried 7#8 false)), (1, freshRecord 25#32 3),
                (2, readRecord 26#32 4 130 .read .queued .idle), (3, readRecord 27#32 4 140 .flagged .done .idle),
                (4, freshRecord 28#32 5), (5, freshRecord 29#32 6)]
      index := [(192, 0), (200, 1), (208, 2), (216, 3), (224, 4), (232, 5)] }
    route := { state := .active, owner := .commandPort, routeId := 7#32, count := 6, received := 6, clock := 60 }
    channels := ⟨{ rx := .assembling, fifo := [goodWord] }, { rx := .assembling }, {}, {}⟩
    eval := { queue := [2] }
    chain := [3]
    seg := {
      table := [(3, { state := .trailing, members := 2, read := 1, visited := true, deadline := some 61 }),
                (4, { state := .complete, members := 2, read := 2, flagged := 1 }),
                (5, { state := .missed, members := 1, visited := true }),
                (6, { state := .active, members := 1, visited := true })]
      staged := { startA := 3, depth := 1, split := 1 }
      applied := { startA := 6, depth := 1, split := 1 }
      revisit := [5] }
    link := { state := .locked, liveness := 1 }
    upload := { state := .passing, cursor := some 6, nextBlock := 8#8, table := [⟨7#8, [0], 1⟩], sent := 1 } }

/-- The same with the liveness count at 0. -/
def demoCalm : State := { demo with link.liveness := 0 }

/-- A load in LOADING under a held lock, owned by one of the parties. -/
def loading (owner : Owner) : State :=
  { up with
    dockPresent := true
    route := { state := .loading, owner := owner, routeId := 7#32, count := 6, check := 1#32 }
    link := { state := .locked } }

/-! ## The small states keep the laws -/

theorem demo_tables : demo.tablesLaw := by unfold State.tablesLaw; decide
theorem demo_index : demo.indexLaw := by unfold State.indexLaw; decide
theorem demo_record : demo.recordLaw := by
  have h : ∀ e ∈ demo.roster.slots,
      e.2.inRange (modulusOf (demo.store.live.profileAt e.2.profile).digits) ∧ e.2.holdsByState
      ∧ e.2.state ≠ .notRead := by
    unfold Record.inRange Record.holdsByState
    decide
  exact h
theorem demo_queue : demo.queueLaw := by unfold State.queueLaw; decide
theorem demo_running : demo.runningLaw := by unfold State.runningLaw; decide
theorem demo_chain : demo.chainLaw := by unfold State.chainLaw; decide
theorem demo_route : demo.routeLaw := by unfold State.routeLaw; decide
theorem demo_empty : demo.emptyLaw := by intro h; cases h
theorem demo_segCount : demo.segCountLaw := by unfold State.segCountLaw; decide +kernel
theorem demo_window : demo.windowLaw := by unfold State.windowLaw Windows.inRange; decide
theorem demo_tx : demo.txLaw := by unfold State.txLaw; decide
theorem demo_link : demo.linkLaw :=
  ⟨by decide, by decide, by decide, by decide, by decide, by decide, by decide, by decide, trivial⟩
theorem demo_upload : demo.uploadLaw := by unfold State.uploadLaw; decide
theorem demo_channel : demo.channelLaw := by unfold State.channelLaw Channel.inRange Stats.inRange; decide +kernel
theorem demo_port : demo.portLaw := by unfold State.portLaw; decide
theorem demo_power : demo.powerLaw := by intro h; exact absurd rfl h
theorem demo_hold : demo.holdLaw := by intro h; cases h

/-- A segment that no record of `demo` names. -/
theorem demo_other {n : Nat} (h3 : n ≠ 3) (h4 : n ≠ 4) (h5 : n ≠ 5) (h6 : n ≠ 6) :
    demo.segAt n = {} ∧ demo.seg.applied.covers n = false := by
  constructor
  · simp [State.segAt, demo, tableGet, h3.symm, h4.symm, h5.symm, h6.symm]
  · show ({ startA := 6, depth := 1, split := 1 } : Windows).covers n = false
    rw [Bool.eq_false_iff]
    simp only [Windows.covers, Config.segmentCount, ne_eq, Bool.and_eq_true, Bool.or_eq_true, decide_eq_true_eq]
    omega

theorem demo_segState : demo.segStateLaw := by
  intro n _
  by_cases h3 : n = 3
  · subst h3
    exact ⟨fun _ => (by decide : (demo.segAt 3).read < (demo.segAt 3).members ∧ demo.seg.applied.covers 3 = false
    ∧ (demo.segAt 3).visited = true), by decide, by decide, by decide⟩
  by_cases h4 : n = 4
  · subst h4
    exact ⟨fun _ => (by decide : 0 < (demo.segAt 4).members ∧ (demo.segAt 4).read = (demo.segAt 4).members), by decide,
    by decide, by decide⟩
  by_cases h5 : n = 5
  · subst h5
    exact ⟨fun _ => (by decide : (demo.segAt 5).read < (demo.segAt 5).members ∧ demo.seg.applied.covers 5 = false
    ∧ (demo.segAt 5).visited = true), by decide, by decide, by decide⟩
  by_cases h6 : n = 6
  · subst h6
    exact ⟨fun _ => (by decide : (demo.segAt 6).read < (demo.segAt 6).members
    ∧ demo.seg.applied.covers 6 = true), by decide, by decide, by decide⟩
  obtain ⟨h, hc⟩ := demo_other h3 h4 h5 h6
  rw [h, hc]
  exact ⟨fun _ => rfl, fun hr => (by cases hr), ⟨fun hx => (by cases hx), fun hx => (by cases hx)⟩,
  fun hx => (by cases hx)⟩

theorem demo_revisit : demo.revisitLaw := by
  refine ⟨by decide, by decide, fun n _ hn => ?_⟩
  by_cases h3 : n = 3
  · subst h3; cases hn
  by_cases h4 : n = 4
  · subst h4; cases hn
  by_cases h5 : n = 5
  · subst h5; decide
  by_cases h6 : n = 6
  · subst h6; cases hn
  rw [(demo_other h3 h4 h5 h6).1] at hn
  cases hn

theorem default_settings : ({} : Settings).inRange := by unfold Settings.inRange Profile.inRange; decide

theorem demo_settings : demo.settingsLaw :=
  ⟨default_settings, fun c hc => (by cases hc), List.length_replicate⟩

theorem demo_fresh : demo.freshLaw := by
  intro e he x hx
  refine ⟨fun hd => ⟨{}, ?_⟩, fun hr => ?_⟩
  · simp only [demo, List.mem_cons, List.not_mem_nil, or_false] at he
    rcases he with rfl | rfl | rfl | rfl | rfl | rfl
    · cases hx; rfl
    · cases hx
    · cases hd
    · cases hx; rfl
    · cases hx
    · cases hx
  · simp only [demo, List.mem_cons, List.not_mem_nil, or_false] at he
    rcases he with rfl | rfl | rfl | rfl | rfl | rfl <;> cases hr

theorem demo_laws : demo.Laws :=
  ⟨demo_tables, demo_index, demo_record, demo_queue, demo_running, demo_fresh, demo_chain, demo_route, demo_empty,
   demo_segCount, demo_segState, demo_revisit, demo_window, demo_tx, demo_link, demo_upload, demo_channel, demo_settings,
   demo_port, demo_power, demo_hold⟩

theorem demoCalm_laws : demoCalm.Laws :=
  { demo_laws with power := fun hp => absurd rfl hp, link := ⟨by decide, by decide, by decide, by decide, by decide, by decide, by decide, by decide, trivial⟩ }

theorem loading_laws (o : Owner) (h : o ≠ .none) : (loading o).Laws where
  tables := by unfold State.tablesLaw; exact ⟨rfl, by simp [loading, up, State.reset], rfl, by simp [loading, up,
  State.reset], rfl, by simp [loading, up, State.reset]⟩
  index := ⟨by simp [loading, up, State.reset], by simp [loading, up, State.reset], by simp [loading, up, State.reset]⟩
  record := by intro e he; cases he
  queue := ⟨List.nodup_nil, by simp [loading, up, State.reset], by simp [loading, up, State.reset]⟩
  running := ⟨by simp [loading, up, State.reset], by simp [loading, up, State.reset]⟩
  fresh := by intro e he; cases he
  chain := ⟨List.nodup_nil, by simp [loading, up, State.reset], by simp [loading, up, State.reset]⟩
  route := ⟨fun hr => (by cases hr), ⟨fun hr => absurd hr h, fun hr => (by cases hr)⟩,
  fun _ => (by show 1 ≤ 6; decide), (by show 6 ≤ 8192; decide),
    Nat.zero_le _, Nat.zero_le _, rfl, Nat.zero_le _, fun _ _ => rfl⟩
  empty := fun hr => by cases hr
  segCount := fun n _ => ⟨rfl, rfl, rfl⟩
  segState := fun n _ => by
    have hc : (loading o).seg.applied.covers n = false := by
      show ({} : Windows).covers n = false
      exact covers_zero n
    rw [hc]
    exact ⟨fun _ => rfl, fun hr => (by cases hr), ⟨fun hx => (by cases hx), fun hx => (by cases hx)⟩,
    fun hx => (by cases hx)⟩
  revisit := ⟨List.nodup_nil, by simp [loading, up, State.reset], fun n _ hn => by cases hn⟩
  window := by
    refine ⟨?_, ?_, fun _ => rfl, fun _ _ => rfl, fun _ _ => by simp [loading, up, State.reset]⟩ <;>
      exact ⟨Nat.zero_le _, Nat.zero_le _, Nat.zero_le _, Nat.zero_le _⟩
  tx := ⟨by simp [loading, up, State.reset], Nat.zero_le _, Nat.zero_le _, Nat.zero_le _, Nat.zero_le _, Nat.zero_le _,
  Nat.zero_le _, Nat.zero_le _⟩
  link := ⟨by cases o <;> decide, fun hl => (by cases hl), Nat.zero_le _, Nat.zero_le _, fun _ => ⟨rfl, Nat.zero_le _⟩,
  fun _ => rfl,
    Nat.zero_le _, Nat.zero_le _, trivial⟩
  upload := ⟨Nat.zero_le _, List.nodup_nil, by simp [loading, up, State.reset], by simp [loading, up, State.reset],
  fun _ => rfl, fun hn => absurd rfl hn,
    fun hn => absurd rfl hn, by simp [loading, up, State.reset], Nat.zero_le _, Nat.zero_le _, Nat.zero_le _,
    Nat.zero_le _, Nat.zero_le _, Nat.zero_le _⟩
  channel := by
    have hc : ∀ ch : Fin 4, (up.channels.get ch).inRange ∧ (up.store.live.enables.get ch
      = false → (up.channels.get ch).rx = .gapWait) := by
      unfold Channel.inRange Stats.inRange; decide
    exact hc
  settings := ⟨default_settings, fun c hc => (by cases hc), List.length_replicate⟩
  port := ⟨by simp [loading, up, State.reset], by simp [loading, up, State.reset], Nat.zero_le _⟩
  power := fun hp => absurd rfl hp
  hold := fun hr => by cases hr

/-- The state a command leaves; the state itself where it stops. -/
def after (c : Instr) (s : State) : State :=
  match exec c s with
  | .next t => t
  | .fault _ => s
  | .refused _ => s

/-! ## Ill-formed commands are refused by WellFormed (one for each check), and a well-formed one of the row is not -/

theorem test_wf_segment :
    (Instr.segmentDeadlineExpiry 1024).wellFormed = false ∧ (Instr.segmentDeadlineExpiry 1023).wellFormed = true := by
  decide
theorem test_wf_word :
    (Instr.channelWordArrival 0 []).wellFormed = false ∧ (Instr.channelWordArrival 0 [⟨1#8,
    false⟩]).wellFormed = true := by
  decide
theorem test_wf_errored :
    (Instr.erroredFrame []).wellFormed = false ∧ (Instr.erroredFrame [⟨0x7E#8, false⟩, ⟨1#8,
    false⟩]).wellFormed = true := by
  decide
theorem test_wf_unusable_message :
    (Instr.unusableFrame 0x10#8 []).wellFormed = false ∧ (Instr.unusableFrame 0x10#8 [0#8]).wellFormed = true := by
  decide
theorem test_wf_unusable_long :
    (Instr.unusableFrame 0x20#8 (List.replicate 1024 0#8)).wellFormed = false := by decide +kernel
theorem test_wf_routeOpen : (Instr.routeOpen []).wellFormed = false := by decide
theorem test_wf_routeRecord : (Instr.routeRecord [0#8]).wellFormed = false := by decide
theorem test_wf_blockAck :
    (Instr.blockAck [0#8]).wellFormed = false ∧ (Instr.blockAck [0#8, 1#8]).wellFormed = true := by decide
theorem test_wf_checkPattern : (Instr.checkPattern []).wellFormed = false := by decide
theorem test_wf_unknown_known : (Instr.unknownCommand 0x01#8 (txCarrying [])).wellFormed = false := by decide
theorem test_wf_unknown_response : (Instr.unknownCommand 0xF0#8 (txCarrying [])).wellFormed = false
    ∧ (Instr.unknownCommand 0x7F#8 (txCarrying [])).wellFormed = true := by decide

/-! ## Worked values of the spec -/

/-- Section 12.7. -/
theorem test_crc16_one_byte : crc16 [0x31#8] = 0xC782#16 := by decide +kernel
theorem test_crc16_nine_bytes :
    crc16 [0x31#8, 0x32#8, 0x33#8, 0x34#8, 0x35#8, 0x36#8, 0x37#8, 0x38#8, 0x39#8] = 0x29B1#16 := by decide +kernel
theorem test_crc32_one_byte : crc32Fold 0xFFFFFFFF#32 [0x31#8] = 0x7C231048#32 ∧ crc32 [0x31#8] = 0x83DCEFB7#32 := by
  decide +kernel
theorem test_crc32_nine_bytes :
    crc32 [0x31#8, 0x32#8, 0x33#8, 0x34#8, 0x35#8, 0x36#8, 0x37#8, 0x38#8, 0x39#8] = 0xCBF43926#32 := by decide +kernel

/-- Section 1.2.2 and Table 1-3: identifiers of bucket 24. -/
theorem test_hash :
    bucketOf 0x00A12C3F#32 = 24 ∧ bucketOf 24#32 = 24 ∧ bucketOf 2073#32 = 24 ∧ bucketOf 14367#32 = 24 := by
  decide

/-- Section 4.4, the worked values of the smoothing. -/
theorem test_smoothing : smoothStep 140 7 172 = 148 ∧ smoothStep 148 7 130 = 144 ∧ smoothStep 144 7 147 = 144
    ∧ smoothStep 144 7 255 = 171 := by decide

/-- A word of a given sequence and reading, electricity. -/
def wordOf (seq : BitVec 8) (value : Nat) (status : Byte) : AirWord :=
  { kind := .electric, meterId := 24#32, seq := seq, value := value, status := status, rssi := 100 }

/-- A held reading of a given sequence. -/
def held (seq : BitVec 8) : Option Reading := some { value := 120, seq := seq, tRead := 0, channel := 0 }

/-- Section 4.3, the examples of the sequence window. -/
theorem test_sequence :
    sequenceVerdict (wordOf 18 130 0) (held 17) = .accepted false
    ∧ sequenceVerdict (wordOf 144 130 0) (held 17) = .accepted false
    ∧ sequenceVerdict (wordOf 145 130 0) (held 17) = .stale ∧ sequenceVerdict (wordOf 2 130 0) (held 250)
    = .accepted false
    ∧ sequenceVerdict (wordOf 16 130 0) (held 17) = .stale ∧ sequenceVerdict (wordOf 1 130 0) (held 200) = .accepted false
    ∧ sequenceVerdict (wordOf 1 130 0) (held 120) = .accepted true
    ∧ sequenceVerdict (wordOf 1 130 0) (held 2) = .accepted true := by
  decide

/-- A snapshot with the values a worked case names. -/
def snap (digits age tRead baseline value low high : Nat) (latched : BitVec 7) (weights : List Nat) : Snapshot :=
  { generation := 0#8, value := value, tRead := tRead, baseline := baseline, baselineAge := age, bandLow := low,
    bandHigh := high, digits := digits, threshold := 100, weights := weights, latched := latched }

/-- Section 5.6, cases A to E. -/
theorem test_case_A : (snap 6 720 5400 999200 350 5 40 0x01#7 [0, 0, 0, 0, 60, 0, 0, 0, 0, 0]).result
    = { delta := 1150, rollover := true, rate := 38, cls := .normal, causes := 0x018#10, score := 60 } := by decide
theorem test_case_B : (snap 6 30 1200 500000 499100 5 40 0#7 [0, 0, 120, 0, 0, 0, 0, 0, 0, 0]).result
    = { delta := 900, rollover := false, rate := 720, cls := .reverse, causes := 0x004#10, score := 120 } := by decide
theorem test_case_C_rollover : (snap 4 0 1200 9995 4 10 200 0#7 [0, 50, 120, 10, 0, 0, 0, 0, 0, 0]).result
    = { delta := 9, rollover := true, rate := 216, cls := .high, causes := 0x00A#10, score := 60 } := by decide
theorem test_case_C_reverse : (snap 4 0 1200 9995 5 10 200 0#7 [0, 50, 120, 10, 0, 0, 0, 0, 0, 0]).result
    = { delta := 9990, rollover := false, rate := 65535, cls := .reverse, causes := 0x004#10, score := 120 } := by decide
theorem test_case_D : (snap 5 100 0 42 41 0 0 0#7 [0, 0, 0, 0, 0, 0, 0, 0, 0, 0]).result
    = { delta := 1, rollover := false, rate := 0, cls := .reverse, causes := 0x004#10, score := 0 } := by decide
theorem test_case_E : (snap 9 0 3599 0 999999999 0 65535 0x7F#7 [0, 0, 0, 0, 100, 100, 80, 40, 90, 90]).result
    = { delta := 999999999, rollover := false, rate := 65535, cls := .normal, causes := 0x3F0#10, score := 255 } := by decide
theorem test_allowance_limit : elapsedHours 4095 16777215 = 8755 ∧ allowance 65535 8755 = 23906622 := by decide

/-- Section 7.3.1: the number of covered segments. -/
theorem test_covered_sets :
    (⟨20, 0, 2, 2⟩ : Windows).coveredCount = 2 ∧ (⟨24, 21, 2, 1⟩ : Windows).coveredCount = 2
    ∧ (⟨300, 304, 10, 6⟩ : Windows).coveredCount = 8 ∧ (⟨1020, 1000, 10, 6⟩ : Windows).coveredCount = 8
    ∧ (⟨500, 500, 0, 64⟩ : Windows).coveredCount = 0 ∧ (⟨0, 500, 64, 0⟩ : Windows).coveredCount = 64
    ∧ (⟨40, 40, 12, 20⟩ : Windows).coveredCount = 12 := by decide +kernel

/-- R202: an array of 0xFF bytes fails its check. -/
theorem test_blank_image_fails : Image.blank.passes = false := by decide +kernel

/-! ## Single commands -/

theorem test_autoload_end_starts :
    (after .autoloadEnd State.reset).power = .running ∧ (after .autoloadEnd State.reset).store.defaulted = true := by
  decide +kernel
theorem test_take_accepts :
    ((after .take demo).recordAt 1).map (fun r => (r.state, r.eval, r.hearCount)) = some (.read, .queued, 1) := by
  decide
theorem test_take_completes_no_segment :
    (after .take demo).segAt 3 = { state := .complete, members := 2, read := 2, visited := true } := by
  decide
theorem test_evaluation_start :
    (after .evaluationStart demo).eval.queue = [] ∧ (after .evaluationStart demo).eval.running.isSome = true := by
  decide
theorem test_route_second_expires :
    (after .routeSecond demo).seg.revisit = [5, 3] ∧ (after .routeSecond demo).route.clock = 61 := by
  decide
theorem test_block_accepted :
    (after (.blockAck [7#8, 1#8]) demo).recordAt 0 = none ∧ (after (.blockAck [7#8, 1#8]) demo).upload.retired = 1 := by
  decide
theorem test_block_refused :
    (after (.blockAck [7#8, 0#8]) demo).upload.table = [] ∧ (after (.blockAck [7#8, 0#8]) demo).upload.returned = 1 := by
  decide
theorem test_block_stray : (after (.blockAck [9#8, 1#8]) demo).upload.strays = 1 := by decide
theorem test_review_head : (after (.reviewHead (txCarrying [])) demo).chain = [] := by decide
theorem test_window_apply_grace_zero :
    (after (.windowApply (txCarrying [])) { demo with store.live.grace := 0 }).seg.revisit = [5, 6] := by
  decide +kernel
theorem test_deadline_beyond_stays :
    (after (.segmentDeadlineExpiry 3) { demo with route.clock := 59 }).seg.revisit = [5] := by decide
theorem test_waive : (after (.waive (txCarrying [0#8, 5#8])) demo).seg.revisit = [] := by decide
theorem test_insert_takes_lowest_slot :
    (after (.insert (txCarrying (beBytes 4 30 ++ [0x80#8] ++ beBytes 2 3 ++ beBytes 4 1 ++ beBytes 2 0 ++ beBytes 2 0 ++ beBytes 2 9)))
      demo).port.buffer = some ⟨.ok, [0#8, 6#8]⟩ := by decide
theorem test_retire_in_flight :
    (after (.retire (txCarrying [0#8, 0#8, 0#8, 0#8, 0#8, 24#8])) demo).port.buffer = some ⟨.inFlight, []⟩ := by
  decide
theorem test_discard_upload_busy :
    (after (.routeDiscard (txCarrying [])) demo).port.buffer = some ⟨.uploadBusy, []⟩ := by decide
theorem test_close :
    (after (.routeClose (txCarrying [])) demo).segAt 6 = { state := .closed, members := 1, read := 1, visited := true } := by
  decide
theorem test_bad_length :
    (after (.status ⟨[3#8, 0#8], false, false⟩) demo).port.buffer = some ⟨.badLength, [1#8, 1#8]⟩ := by decide
theorem test_response_none : (after (.response 3 false) demo).port.miso = [0xFF#8, 0x02#8, 0x00#8, 0xFF#8] := by decide
theorem test_profile_clamps :
    (after (.profileWrite (txCarrying (5#8 :: 12#8 :: 3#8 :: 77#8 :: List.replicate 10 1#8))) demo).store.live.profileAt 5
      = { digits := 9, threshold := 3, smoothing := 31, weights := List.replicate 10 1 } := by decide
theorem test_loses_lock :
    (after .dockPresentFall demo).upload.table = [] ∧ (after .dockPresentFall demo).link.state = .detached := by decide
theorem test_sync_locks :
    (after .sync { up with link := { state := .acquiring, syncRun := 3 }, dockPresent := true }).link.state
      = .locked := by decide

/-! ## Witnesses: for each statement with hypotheses, a concrete state and operands that meet them, clause by clause -/

theorem witness_StepRunsTheFrontCommand : State.reset.pending = [] := rfl

theorem witness_LawsNeverFault : demo.Laws := demo_laws

/-- A lawful state with a command in front, and its next state: for every StepKeeps statement. -/
theorem witness_StepKeeps :
    ({ demo with pending := [.take] } : State).Laws ∧ ∃ t, step { demo with pending := [.take] } = .next t :=
  ⟨{ demo_laws with power := fun hp => absurd rfl hp }, _, rfl⟩

/-- The settings image of the default settings. -/
def goodImage : List Byte := ({} : Settings).imageBody ++ beBytes 2 (imageCheck ({} : Settings).imageBody)

theorem witness_PartStartsAndLosesSupply :
    up.power ≠ .autoload ∧ State.reset.power = .autoload ∧ State.reset.store.image.passes = false
    ∧ ∃ s : State, s.power = .autoload ∧ s.store.image = .whole goodImage ∧ s.store.image.passes = true :=
  ⟨by decide, rfl, by decide +kernel, { State.reset with store := { ({} : Store) with image := .whole goodImage } },
   rfl, rfl,
   by decide +kernel⟩

theorem witness_ResetLineWarmResets :
    State.reset.power ≠ .running ∧ demo.Laws ∧ demo.power = .running
    ∧ (({ up with resetLow := true } : State).power = .running ∧ ({ up with resetLow := true } : State).resetLow = true)
    ∧ up.resetLow = false :=
  ⟨by decide, demo_laws, rfl, ⟨rfl, rfl⟩, rfl⟩

theorem witness_ResetCommandIsAWarmReset : demo.Laws ∧ demo.listens := ⟨demo_laws, rfl, rfl⟩

theorem witness_TenthCountsAndExpiresBlocks :
    ({ up with lines := { pulse := 1 } } : State).lines.pulse ≤ 1
    ∧ 2 ≤ ({ up with lines := { pulse := 2 } } : State).lines.pulse
    ∧ demoCalm.Laws ∧ ¬ ((demoCalm.link.state = .locked ∨ demoCalm.link.state = .checking)
    ∧ 1 ≤ demoCalm.link.liveness) :=
  ⟨by decide, by decide, demoCalm_laws, by decide⟩

theorem witness_TenthLosesTheLock :
    demo.Laws ∧ (demo.link.state = .locked ∨ demo.link.state = .checking) ∧ 1 ≤ demo.link.liveness
    ∧ demo.upload.table.filter (fun o => decide (o.tenths ≤ 1)) ≠ [] :=
  ⟨demo_laws, by decide, by decide, by decide⟩

theorem witness_LockIsLostByExpiryAndFall :
    ¬ ((demoCalm.link.state = .locked ∨ demoCalm.link.state = .checking) ∧ 1 ≤ demoCalm.link.liveness)
    ∧ demo.Laws ∧ (demo.link.state = .locked ∨ demo.link.state = .checking) ∧ 1 ≤ demo.link.liveness
    ∧ (up.link.state = .detached ∨ up.link.state = .acquiring) :=
  ⟨by decide, demo_laws, by decide, by decide, by decide⟩

theorem witness_DeadlinesExpire :
    ¬ (up.listens ∧ up.route.state = .active) ∧ demo.Laws ∧ demo.listens ∧ demo.route.state = .active
    ∧ (demo.segAt 3).state = .trailing ∧ (demo.segAt 3).deadline = some 61 ∧ 61 = min 16777215 (demo.route.clock + 1)
    ∧ (demo.segAt 4).state ≠ .trailing
    ∧ (({ demo with route.clock := 59 } : State).segAt 3).deadline = some 61 ∧ min 16777215 (59 + 1) < 61 :=
  ⟨fun h => (by cases h.2), demo_laws, ⟨rfl, rfl⟩, rfl, by decide, by decide, by decide, by decide, by decide, by decide⟩

theorem witness_ArrivingWordIsJudged :
    demo.listens ∧ demo.store.live.enables.get 0 = true ∧ (demo.channels.get 0).rx = .assembling
    ∧ (demo.channels.get 0).word = {} ∧ goodWord.map (fun b => (⟨b, false⟩ : RxByte)) ≠ [] :=
  ⟨⟨rfl, rfl⟩, rfl, rfl, rfl, by decide⟩

theorem witness_GapsAndDeafChannels :
    ¬ (State.reset.listens ∧ State.reset.store.live.enables.get 0 = true)
    ∧ (demo.listens ∧ demo.store.live.enables.get 2 = true ∧ (demo.channels.get 2).rx = .gapWait)
    ∧ (demo.store.live.enables.get 1 = true ∧ (demo.channels.get 1).rx = .assembling
    ∧ (demo.channels.get 1).word.count = 0) :=
  ⟨fun h => (by cases h.1.1), ⟨⟨rfl, rfl⟩, rfl, rfl⟩, rfl, rfl, rfl⟩

theorem witness_TakeByRotation :
    up.listens ∧ (∀ ch, (up.channels.get ch).fifo = [])
    ∧ (({ demo with route.state := .closed } : State).listens
        ∧ (∀ j : Fin 4, j < 0 → (demo.channels.get (demo.rotation + 1 + j)).fifo = [])
        ∧ (demo.channels.get (demo.rotation + 1 + 0)).fifo = [goodWord]
        ∧ ({ demo with route.state := .closed } : State).route.state ≠ .active)
    ∧ ({ up with route.state := .active } : State).lookup (airWordOf goodWord).meterId = none :=
  ⟨⟨rfl, rfl⟩, by decide, ⟨⟨rfl, rfl⟩, by decide, rfl, by decide⟩, by decide⟩

/-- An electricity record that holds a reading of sequence `seq`, or none. -/
def seqRecord (x : Option Reading) : Record := { freshRecord 24#32 0 with kind := .electric, reading := x }

/-- The clauses of the tests, with the distances 0, 1, 127 and 128 and the sequences 3 and 4. -/
theorem witness_WordsAreTestedInOrder :
    (wordOf 1 130 0).kind ≠ (freshRecord 24#32 0).kind ∧ (wordOf 1 130 0).kind = (seqRecord none).kind
    ∧ (wordOf 1 130 0x10).status.getLsbD 4 = true ∧ (wordOf 1 130 0).status.getLsbD 4 = false
    ∧ 130 ≤ (wordOf 1 130 0).value ∧ (wordOf 1 130 0).value < 131
    ∧ (seqRecord none).reading = none ∧ (seqRecord (held 1)).reading = held 1
    ∧ ((wordOf 1 120 0).seq.toNat + 256 - (1#8).toNat) % 256 = 0 ∧ (wordOf 1 120 0).value = 120
    ∧ (wordOf 1 130 0).value ≠ 120
    ∧ ((wordOf 2 130 0).seq.toNat + 256 - (1#8).toNat) % 256 = 1
    ∧ ((wordOf 128 130 0).seq.toNat + 256 - (1#8).toNat) % 256 = 127
    ∧ ((wordOf 3 130 0).seq.toNat + 256 - (131#8).toNat) % 256 = 128 ∧ (wordOf 3 130 0).seq.toNat ≤ 3
    ∧ ((wordOf 4 130 0).seq.toNat + 256 - (132#8).toNat) % 256 = 128 ∧ 4 ≤ (wordOf 4 130 0).seq.toNat ∧ 31 ≤ 31 := by
  decide

theorem witness_TakeActsOnItsRecord :
    demo.Laws ∧ demo.listens ∧ demo.route.state = .active ∧ demo.nextChannel = some 0
    ∧ (demo.channels.get 0).fifo = [goodWord] ∧ demo.lookup (airWordOf goodWord).meterId = some 1
    ∧ demo.recordAt 1 = some (freshRecord 25#32 3) :=
  ⟨demo_laws, ⟨rfl, rfl⟩, rfl, by decide, rfl, by decide, rfl⟩

theorem witness_EvaluationStartTakesTheHead :
    ¬ State.reset.listens ∧ demo.Laws ∧ demo.listens ∧ demo.eval.running = none ∧ demo.eval.queue = [2]
    ∧ up.eval.queue = [] :=
  ⟨fun h => (by cases h.1), demo_laws, ⟨rfl, rfl⟩, rfl, rfl, rfl⟩

/-- A running computation of a slot, for a snapshot with a threshold and a generation. -/
def computing (slot threshold : Nat) (generation : BitVec 8) : Computation :=
  { slot := slot, departed := false,
    snap := { snap 6 10 60 100 120 0 50 0x01#7 [0, 0, 0, 0, 60, 0, 0, 0, 0, 0] with
      threshold := threshold, generation := generation } }

/-- A RUNNING record of `demo` in a state. -/
def runningRecord (st : RecState) : Record :=
  { readRecord 26#32 4 120 st .running .idle with reviewedCauses := if st = .reviewed then some 0x00F#10 else none }

theorem witness_ResultIsDroppedOrWritten :
    demo.eval.running = none
    ∧ (∃ s : State, s.eval.running = some (computing 9 60 1#8) ∧ s.recordAt 9 = none)
    ∧ (∃ s : State, s.eval.running = some (computing 2 60 0#8) ∧ s.recordAt 2 = some (runningRecord .read)
        ∧ (runningRecord .read).generation ≠ 0#8)
    ∧ (∃ s : State, s.eval.running = some (computing 2 60 1#8) ∧ s.recordAt 2 = some (runningRecord .read)
        ∧ (runningRecord .read).eval = .running ∧ (runningRecord .read).generation = (computing 2 60 1#8).snap.generation)
    ∧ (computing 2 60 1#8).snap.result.score = 60 ∧ (60 : Nat) ≤ (computing 2 60 1#8).snap.result.score
    ∧ ¬ ((61 : Nat) ≤ (computing 2 61 1#8).snap.result.score)
    ∧ ((computing 2 60 1#8).snap.result.causes.getLsbD 4 = true
        ∧ ((runningRecord .reviewed).reviewedCauses.getD 0#10).getLsbD 4 = false) :=
  ⟨rfl, ⟨{ up with eval := { running := some (computing 9 60 1#8) } }, rfl, rfl⟩,
   ⟨{ up with roster.slots := [(2, runningRecord .read)], eval := { running := some (computing 2 60 0#8) } }, rfl, rfl,
    by decide⟩,
   ⟨{ up with roster.slots := [(2, runningRecord .read)], eval := { running := some (computing 2 60 1#8) } }, rfl, rfl,
    by decide,
     by decide⟩,
   by decide, by decide, by decide, by decide⟩

/-- Wrapped advances at the allowance and one beyond it (24 times 9 is below, 24 times 10 at the bound 200 + 24), rates at both
ends of the band, and the ranges of Table 5-4. -/
theorem witness_EvaluationFollowsTheStages :
    (9995 < 10 ^ 4 ∧ 4 < 9995 ∧ 24 * (4 + 10 ^ 4 - 9995) < 200 * 1 + 24 ∧ 200 * 1 + 24 ≤ 24 * (5 + 10 ^ 4 - 9995))
    ∧ (100 ≤ 100 ∧ (snap 6 24 0 100 100 0 50 0#7 []).result.rate = 0 ∧ (snap 6 24 0 100 100 1 50 0#7 []).result.rate < 1
        ∧ (snap 6 24 0 100 150 0 50 0#7 []).result.rate ≤ 50 ∧ 50 < (snap 6 24 0 100 151 0 50 0#7 []).result.rate)
    ∧ (9 ≤ 9 ∧ 999999999 < 10 ^ 9 ∧ 4095 ≤ 4095 ∧ 16777215 ≤ 16777215 ∧ 65535 ≤ 65535) := by
  decide

theorem witness_CausesAndScore :
    (snap 6 24 0 100 100 0 50 0x7F#7 [0, 1, 2, 3, 4, 5, 6, 7, 8, 9]).weights = [0, 1, 2, 3, 4, 5, 6, 7, 8, 9] :=
  rfl

theorem witness_ListReadsShowOneEntry :
    demo.listens ∧ demo.chain[0]? = some 3 ∧ demo.recordAt 3 = some (readRecord 27#32 4 140 .flagged .done .idle)
    ∧ demo.chain.length ≤ 1 ∧ demo.seg.revisit[0]? = some 5 ∧ demo.seg.revisit.length ≤ 1
    ∧ ({ demo with route.rejectList := [⟨0, 24#32, .badBand⟩] } : State).route.rejectList[0]? = some ⟨0, 24#32, .badBand⟩
    ∧ demo.route.rejectList.length ≤ 255 :=
  ⟨⟨rfl, rfl⟩, by decide, rfl, by decide, by decide, by decide, by decide, by decide⟩

theorem witness_ReviewTakesTheFlag :
    demo.listens ∧ ¬ (8192 < 8192) ∧ up.chain = []
    ∧ (2 < 8192 ∧ demo.recordAt 2 = some (readRecord 26#32 4 130 .read .queued .idle)
        ∧ (readRecord 26#32 4 130 .read .queued .idle).state ≠ .flagged)
    ∧ (3 < 8192 ∧ demo.recordAt 3 = some (readRecord 27#32 4 140 .flagged .done .idle)
        ∧ (readRecord 27#32 4 140 .flagged .done .idle).state = .flagged ∧ demo.chain = [3]) :=
  ⟨⟨rfl, rfl⟩, by decide, rfl, ⟨by decide, rfl, by decide⟩, by decide, rfl, rfl, rfl⟩

theorem witness_WindowsAreStagedAndRead :
    (⟨0, 500, 64, 0⟩ : Windows).depth ≤ 64 ∧ demo.listens ∧ 65535 < 65536 ∧ demo.route.state = .active
    ∧ up.listens ∧ up.route.state ≠ .ready ∧ up.route.state ≠ .active :=
  ⟨by decide, ⟨rfl, rfl⟩, by decide, rfl, ⟨rfl, rfl⟩, by decide, by decide⟩

/-- The ACTIVE route with grace 0. -/
def graceless : State := { demo with store.live.grace := 0 }

theorem graceless_laws : graceless.Laws :=
  { demo_laws with
    power := fun hp => absurd rfl hp
    settings := ⟨by unfold Settings.inRange Profile.inRange; decide, fun c hc => (by cases hc), List.length_replicate⟩ }

theorem witness_WindowApplySettlesEverySegment :
    up.listens ∧ up.route.state ≠ .active ∧ demo.listens ∧ demo.Laws ∧ demo.route.state = .active
    ∧ demo.store.live.grace ≠ 0
    ∧ graceless.listens ∧ graceless.Laws ∧ graceless.route.state = .active ∧ graceless.store.live.grace = 0
    ∧ (graceless.seg.applied.covers 6 && !graceless.seg.staged.covers 6
        && decide ((graceless.segAt 6).state = .active)) = true :=
  ⟨⟨rfl, rfl⟩, by decide, ⟨rfl, rfl⟩, demo_laws, rfl, by decide, ⟨rfl, rfl⟩, graceless_laws, rfl, rfl, by decide⟩

theorem witness_SegmentReadAndWaive :
    demo.listens ∧ 1023 < 1024 ∧ 1023 ≤ 1023 ∧ (demo.segAt 1023).state ≠ .missed ∧ (demo.segAt 5).state = .missed :=
  ⟨⟨rfl, rfl⟩, by decide, by decide, by decide, by decide⟩

theorem witness_RecordsAreFoundAndRead :
    demo.Laws ∧ demo.listens ∧ demo.lookup 26#32 = some 2 ∧ demo.recordAt 2
      = some (readRecord 26#32 4 130 .read .queued .idle)
    ∧ demo.lookup 99#32 = none ∧ (8191 < 8192 ∧ demo.recordAt 8191 = none) ∧ 8192 ≤ 8192
    ∧ demo.tablesLaw ∧ (∀ c, demo.port.cursor = some c → c < 0) ∧ (∀ m, m < 0 → demo.recordAt m = none)
    ∧ (∀ m, (∀ c, up.port.cursor = some c → c < m) → up.recordAt m = none) :=
  ⟨demo_laws, ⟨rfl, rfl⟩, by decide, rfl, by decide, by decide, by decide, demo_tables, fun c h => (by cases h),
   fun m h => absurd h (Nat.not_lt_zero m), fun _ _ => rfl⟩

theorem witness_RecordImageCarriesTheRecord :
    8191 < 8192 ∧ 1000000 ≤ 1000000000 ∧ (readRecord 26#32 4 130 .read .queued .idle).inRange 1000000
    ∧ (freshRecord 25#32 3).inRange 1000000 ∧ (freshRecord 25#32 3).reading = none ∧ (freshRecord 25#32 3).signal = none
    ∧ (freshRecord 25#32 3).result = none :=
  ⟨by decide, by decide, by unfold Record.inRange; decide, by unfold Record.inRange; decide, rfl, rfl, rfl⟩

/-- A load record image: identifier, segment, profile and band. -/
def imageBytes (id segment profile low high : Nat) : List Byte :=
  beBytes 4 id ++ beBytes 1 (128 + profile) ++ beBytes 2 segment ++ beBytes 4 100 ++ beBytes 2 10 ++ beBytes 2 low ++ beBytes 2 high

theorem witness_CandidatesAreInserted :
    up.listens ∧ (imageBytes 40 3 0 0 50).length = 17 ∧ up.route.state ≠ .ready ∧ up.route.state ≠ .active
    ∧ demo.listens ∧ demo.route.state = .active ∧ validate demo (loadImageOf (imageBytes 40 3 0 51 50)) = some .badBand
    ∧ demo.Laws ∧ validate demo (loadImageOf (imageBytes 40 3 0 0 50)) = none :=
  ⟨⟨rfl, rfl⟩, by decide, by decide, by decide, ⟨rfl, rfl⟩, rfl, by decide, demo_laws, by decide⟩

/-- Every clause of AMEND: the record of slot 1 is idle, that of slot 0 carried; the selections that are locked, bad and good. -/
theorem witness_AmendWritesTheSelection :
    demo.listens ∧ (imageBytes 25 1023 15 0 65535).length = 17
    ∧ ¬ (up.route.state = .ready ∨ up.route.state = .active) ∧ demo.route.state = .active ∧ ¬ (8192 < 8192)
    ∧ (demo.recordAt 0 = some (readRecord 24#32 3 120 .read .done (.carried 7#8 false))
        ∧ (readRecord 24#32 3 120 .read .done (.carried 7#8 false)).upload.isCarried = true
        ∧ (loadImageOf (imageBytes 24 3 0 0 50)).meterId = 24#32)
    ∧ (demo.recordAt 1 = some (freshRecord 25#32 3) ∧ (freshRecord 25#32 3).upload.isCarried = false
        ∧ (loadImageOf (imageBytes 25 3 0 0 50)).meterId = 25#32)
    ∧ ((0x01#8).getLsbD 0 = true ∧ (0x26#8).getLsbD 0 = false ∧ (0x26#8).getLsbD 3 = false ∧ (0x26#8).getLsbD 4 = false)
    ∧ ((0x26#8).getLsbD 1 = true ∧ 15 < (loadImageOf (imageBytes 25 3 16 0 50)).profile
    ∧ (loadImageOf (imageBytes 25 3 15 0 50)).profile ≤ 15)
    ∧ ((0x26#8).getLsbD 2 = true ∧ 1023 < (loadImageOf (imageBytes 25 1024 15 0 50)).segment
    ∧ (loadImageOf (imageBytes 25 1023 15 0 50)).segment ≤ 1023)
    ∧ ((0x26#8).getLsbD 5 = true ∧ (loadImageOf (imageBytes 25 3 0 51 50)).bandHigh < (loadImageOf (imageBytes 25 3 0 51 50)).bandLow
        ∧ ¬ ((loadImageOf (imageBytes 25 3 0 50 50)).bandHigh < (loadImageOf (imageBytes 25 3 0 50 50)).bandLow))
    ∧ (10 ^ 6 ≤ ({ freshRecord 25#32 3 with baseline := 1000000 } : Record).baseline
    ∧ ¬ (10 ^ 6 ≤ (freshRecord 25#32 3).baseline))
    ∧ demo.Laws :=
  ⟨⟨rfl, rfl⟩, by decide, by decide, rfl, by decide, ⟨rfl, by decide, by decide⟩, ⟨rfl, by decide, by decide⟩,
   by decide, by decide,
   by decide, by decide, by decide, demo_laws⟩

theorem witness_RetireAndReevaluate :
    demo.listens ∧ up.route.state ≠ .ready ∧ up.route.state ≠ .active ∧ up.route.state ≠ .closed ∧ ¬ (8192 < 8192)
    ∧ (demo.recordAt 0 = some (readRecord 24#32 3 120 .read .done (.carried 7#8 false))
        ∧ (readRecord 24#32 3 120 .read .done (.carried 7#8 false)).upload.isCarried = true
        ∧ (readRecord 24#32 3 120 .read .done (.carried 7#8 false)).reading ≠ none)
    ∧ (demo.Laws ∧ demo.route.state = .active ∧ demo.recordAt 1 = some (freshRecord 25#32 3)
        ∧ (freshRecord 25#32 3).upload.isCarried = false ∧ (freshRecord 25#32 3).reading = none) :=
  ⟨⟨rfl, rfl⟩, by decide, by decide, by decide, by decide, ⟨rfl, by decide, by decide⟩, demo_laws, rfl, rfl, by decide,
   rfl⟩

theorem witness_ProfilesAreReadAndWritten :
    demo.listens ∧ (List.replicate 10 1#8).length = 10 ∧ 16 ≤ (16#8).toNat ∧ (15#8).toNat < 16
    ∧ ({ demo with store.commit := some ⟨{}, 0⟩ } : State).store.commit ≠ none ∧ demo.store.commit = none
    ∧ (∃ e ∈ ({ demo with roster.slots := [(0, { freshRecord 25#32 3 with baseline := 10000 })] } : State).roster.slots,
        e.2.profile = (0#8).toNat ∧ 10 ^ 4 ≤ e.2.baseline)
    ∧ ¬ ∃ e ∈ demo.roster.slots, e.2.profile = (15#8).toNat :=
  ⟨⟨rfl, rfl⟩, by decide, by decide, by decide, by decide, rfl, by decide, by decide⟩

theorem witness_LoadIsOpened :
    demo.listens ∧ demo.route.state ≠ .empty ∧ up.listens ∧ up.route.state = .empty
    ∧ (0 = 0 ∨ 8192 < 0) ∧ (8193 = 0 ∨ 8192 < 8193) ∧ 1 ≤ 1 ∧ 8192 ≤ 8192 ∧ 8193 < 65536
    ∧ demo.link.state = .locked ∧ ({ up with link := { state := .locked } } : State).link.state = .locked :=
  ⟨⟨rfl, rfl⟩, by decide, ⟨rfl, rfl⟩, rfl, by decide, by decide, by decide, by decide, by decide, rfl, rfl⟩

theorem witness_LoadRecordIsTaken :
    (imageBytes 40 3 0 0 50).length = 17 ∧ demo.listens ∧ demo.route.state ≠ .loading ∧ demo.link.state = .locked
    ∧ (∀ o, (loading o).listens ∧ (loading o).route.state = .loading ∧ (loading o).route.owner = o
    ∧ (loading o).link.state = .locked)
    ∧ Owner.dock ≠ Owner.commandPort ∧ (loading .commandPort).Laws ∧ (loading .dock).Laws
    ∧ validate (loading .commandPort) (loadImageOf (imageBytes 0 3 0 0 50)) = some .badId
    ∧ validate (loading .dock) (loadImageOf (imageBytes 0 3 0 0 50)) = some .badId
    ∧ validate (loading .commandPort) (loadImageOf (imageBytes 40 3 0 0 50)) = none
    ∧ validate (loading .dock) (loadImageOf (imageBytes 40 3 0 0 50)) = none :=
  ⟨by decide, ⟨rfl, rfl⟩, by decide, rfl, fun _ => ⟨⟨rfl, rfl⟩, rfl, rfl, rfl⟩, by decide, loading_laws _ (by decide),
   loading_laws _ (by decide), by decide, by decide, by decide, by decide⟩

theorem witness_LoadIsSealed :
    demo.listens ∧ demo.route.state ≠ .loading ∧ demo.link.state = .locked
    ∧ ∀ o, (loading o).listens ∧ (loading o).route.state = .loading ∧ (loading o).route.owner = o
    ∧ (loading o).link.state = .locked :=
  ⟨⟨rfl, rfl⟩, by decide, rfl, fun _ => ⟨⟨rfl, rfl⟩, rfl, rfl, rfl⟩⟩

theorem witness_RouteBeginsAndCloses :
    (demo.listens ∧ demo.route.state ≠ .ready)
    ∧ (({ up with route.state := .ready } : State).listens ∧ ({ up with route.state := .ready } : State).route.state
    = .ready
        ∧ ({ up with route.state := .ready } : State).tablesLaw)
    ∧ (up.listens ∧ up.route.state ≠ .active ∧ (loading .dock).link.state = .locked
    ∧ (loading .dock).route.state ≠ .active)
    ∧ (demo.Laws ∧ demo.route.state = .active ∧ demo.link.state = .locked) :=
  ⟨⟨⟨rfl, rfl⟩, by decide⟩, ⟨⟨rfl, rfl⟩, rfl, by unfold State.tablesLaw; decide⟩, ⟨⟨rfl, rfl⟩, by decide, rfl,
   by decide⟩, demo_laws,
   rfl, rfl⟩

theorem witness_RouteIsThrownAway :
    up.listens ∧ up.route.state = .empty ∧ demo.listens ∧ demo.route.state ≠ .empty ∧ demo.upload.table ≠ []
    ∧ (loading .dock).listens ∧ (loading .dock).route.state ≠ .empty ∧ (loading .dock).upload.table = []
    ∧ demo.link.state = .locked ∧ ({ up with link := { state := .locked } } : State).link.state = .locked
    ∧ ((loading .commandPort).route.state = .loading ∧ (loading .commandPort).route.owner = .commandPort)
    ∧ ¬ (demo.route.state = .loading ∧ demo.route.owner = .commandPort)
    ∧ ¬ ((loading .dock).route.state = .loading ∧ (loading .dock).route.owner = .commandPort) :=
  ⟨⟨rfl, rfl⟩, rfl, ⟨rfl, rfl⟩, by decide, by decide, ⟨rfl, rfl⟩, by decide, rfl, rfl, rfl, ⟨rfl, rfl⟩, by decide,
   by decide⟩

/-- A transmit queue with `k` frames of a type. -/
def queued (typ : Byte) (k : Nat) : State := { up with link := { state := .locked, txQueue := List.replicate k ⟨typ, []⟩ } }

theorem witness_FramesAreOffered :
    (queued 0x92#8 3).link.waiting 0x92#8 < 4 ∧ 4 ≤ (queued 0x92#8 4).link.waiting 0x92#8
    ∧ (queued 0x91#8 0).link.waiting 0x91#8 < 1 ∧ 1 ≤ (queued 0x91#8 1).link.waiting 0x91#8
    ∧ up.link.state ≠ .locked ∧ demo.link.state = .locked ∧ up.link.state = .detached ∧ demo.link.state ≠ .detached
    ∧ 1 ≤ (queued typPartSync 1).link.waiting typPartSync ∧ demo.link.waiting typPartSync = 0 := by
  decide

theorem witness_LinkIsAcquired :
    up.listens ∧ up.link.state = .detached ∧ ¬ (demo.listens ∧ demo.link.state = .detached)
    ∧ (({ up with link := { state := .acquiring, syncRun := 2 } } : State).link.state = .acquiring ∧ 2 < 3)
    ∧ (({ up with link := { state := .acquiring, syncRun := 3 } } : State).link.state = .acquiring ∧ 3 ≤ 3)
    ∧ demo.link.state = .locked ∧ demo.link.txQueue = [] ∧ (queued 0x91#8 1).link.txQueue = [⟨0x91#8, []⟩] :=
  ⟨⟨rfl, rfl⟩, rfl, fun h => (by cases h.2), ⟨rfl, by decide⟩, ⟨rfl, by decide⟩, rfl, rfl, rfl⟩

theorem witness_LinkCheckIsRun :
    checkPatternBytes.length = 64 ∧ (∀ n : Fin 64, byteAt checkPatternBytes n = BitVec.ofNat 8 n ^^^ 0xA5#8)
    ∧ (List.replicate 64 0#8).length = 64 ∧ (loading .dock).link.state = .locked ∧ (loading .dock).upload.table = []
    ∧ demo.upload.table ≠ [] ∧ ({ up with link := { state := .checking, errors := 65535 } } : State).link.state
    = .checking := by
  decide +kernel

theorem witness_ArrivalsOutsideTheLock :
    (List.replicate 10 0#8).length = 10 ∧ (List.replicate 17 0#8).length = 17 ∧ (List.replicate 2 0#8).length = 2
    ∧ (List.replicate 64 0#8).length = 64 ∧ isMessage 0x1A#8 [] = false ∧ isMessage 0x20#8 [] = false
    ∧ up.link.state = .detached
    ∧ ({ up with link := { state := .acquiring } } : State).link.state = .acquiring
    ∧ ({ up with link := { state := .checking } } : State).link.state = .checking ∧ demo.link.state = .locked
    ∧ Instr.checkStart ∈ ownedMessages (List.replicate 10 0#8) (List.replicate 17 0#8) (List.replicate 2 0#8) := by
  decide

theorem witness_ReceiverReadsEveryFrame : (⟨0x7E#8, List.replicate 1023 0x7E#8⟩ : Frame).payload.length ≤ 1023 :=
  Nat.le_of_eq List.length_replicate

/-- A frame cut short before its last byte, one with a line fault in its last byte, and one with a wrong CRC. -/
theorem witness_ErroredFrameIsCounted :
    (⟨0x10#8, []⟩ : Frame).payload.length ≤ 1023 ∧ (beBytes 4 0).length = 4
    ∧ (6 < ((0x10#8) :: (beBytes 2 0 ++ [] ++ beBytes 4 0)).length
        ∧ (List.replicate 6 false).length = (((0x10#8) :: (beBytes 2 0 ++ [] ++ beBytes 4 0)).take 6).length)
    ∧ ([false, false, false, false, false, false, true].length
    = (((0x10#8) :: (beBytes 2 0 ++ [] ++ beBytes 4 0)).take 7).length
        ∧ [false, false, false, false, false, false, true].any (fun x => x) = true)
    ∧ beNat (beBytes 4 0) ≠ (crc32 (⟨0x10#8, []⟩ : Frame).body).toNat
    ∧ up.link.receiver = .hunt ∧ up.link.state = .detached ∧ demo.link.receiver = .hunt ∧ demo.link.state = .locked
    ∧ ({ up with link := { state := .acquiring } } : State).link.receiver = .hunt
    ∧ ({ up with link := { state := .checking } } : State).link.receiver = .hunt
    ∧ 1023 < 256 * (4#8).toNat + (0#8).toNat ∧ ¬ (1023 < 256 * (3#8).toNat + (255#8).toNat)
    ∧ ∀ b ∈ [(⟨0#8, false⟩ : RxByte)], b.val ≠ 0x7E#8 := by
  decide +kernel

theorem witness_PassesStartAndEnd :
    (({ demo with link.state := .checking, upload := { state := .passing, cursor := none } } : State).link.state ≠ .locked
        ∧ ({ demo with link.state := .checking, upload := { state := .passing, cursor := none } } : State).upload.table = [])
    ∧ demo.link.state = .locked
    ∧ (({ demo with upload := {} } : State).upload.state = .idle ∧ demo.route.state = .active)
    ∧ ¬ (demo.upload.state = .idle ∧ (demo.route.state = .active ∨ demo.route.state = .closed))
    ∧ demo.upload.state = .passing
    ∧ ({ demo with upload := {} } : State).upload.state ≠ .passing
    ∧ (({ demo with upload := { state := .passing, cursor := none } } : State).upload.cursor = none
        ∧ ({ demo with upload := { state := .draining } } : State).upload.table = [])
    ∧ demo.upload.table ≠ [] := by
  decide

theorem witness_AssemblyMakesABlock :
    (up.upload.state ≠ .passing ∧ ({ demo with upload.cursor := none } : State).upload.cursor = none
        ∧ 4 ≤ (List.replicate 4 (⟨0#8, [], 1⟩ : Outstanding)).length
        ∧ ({ demo with link.state := .checking } : State).link.state ≠ .locked)
    ∧ demo.tablesLaw ∧ demo.upload.cursor = some 6 ∧ demo.upload.state = .passing ∧ demo.upload.table.length < 4
    ∧ demo.link.state = .locked ∧ (demo.roster.slots.filter (fun e => decide (6 ≤ e.1))).take 16 = []
    ∧ (∃ s : State, s.tablesLaw ∧ s.upload.cursor = some 0 ∧ s.upload.state = .passing ∧ s.upload.table.length = 3
        ∧ s.link.state = .locked ∧ s.route.state = .active
        ∧ s.roster.slots = [(8191, readRecord 26#32 4 130 .read .done .idle)]) :=
  ⟨⟨by decide, rfl, by decide, by decide⟩, demo_tables, rfl, rfl, by decide, rfl, by decide,
   { demo with roster := { slots := [(8191, readRecord 26#32 4 130 .read .done .idle)] },
               upload := { state := .passing, table := List.replicate 3 ⟨0#8, [], 1⟩ } },
   by unfold State.tablesLaw; decide, rfl, rfl, rfl, rfl, rfl, rfl⟩

theorem witness_BlocksReturnOrStray :
    demo.link.state = .locked ∧ (∀ o ∈ demo.upload.table, o.block ≠ 8#8)
    ∧ demo.Laws ∧ demo.upload.table.find? (fun x => x.block == 7#8) = some ⟨7#8, [0], 1⟩ ∧ 0#8 ≠ 1#8 ∧ 2#8 ≠ 1#8
    ∧ demo.upload.table.find? (fun o => o.block == 8#8 && decide (o.tenths ≤ 1)) = none
    ∧ demo.upload.table.find? (fun o => o.block == 7#8 && decide (o.tenths ≤ 1)) = some ⟨7#8, [0], 1⟩ :=
  ⟨rfl, by decide, demo_laws, by decide, by decide, by decide, by decide, by decide⟩

/-- A CLOSED route whose one record left is carried by the one block outstanding. -/
def closing : State :=
  { up with
    dockPresent := true
    roster := { slots := [(0, readRecord 24#32 3 120 .flagged .done (.carried 7#8 false))], index := [(192, 0)] }
    route := { state := .closed, owner := .dock, routeId := 7#32, count := 1, received := 1, clock := 60 }
    chain := [0]
    seg := { table := [(3, { state := .closed, members := 1, read := 1, flagged := 1, visited := true })] }
    link := { state := .locked }
    upload := { state := .passing, cursor := some 6, nextBlock := 8#8, table := [⟨7#8, [0], 1⟩], sent := 1 } }

/-- A segment that no record of `closing` names. -/
theorem closing_other {n : Nat} (h3 : n ≠ 3) : closing.segAt n = {} := by
  simp [State.segAt, closing, tableGet, h3.symm]

theorem closing_laws : closing.Laws where
  tables := by unfold State.tablesLaw; decide
  index := by unfold State.indexLaw; decide
  record := by
    have h : ∀ e ∈ closing.roster.slots,
        e.2.inRange (modulusOf (closing.store.live.profileAt e.2.profile).digits) ∧ e.2.holdsByState
        ∧ e.2.state ≠ .expected := by
      unfold Record.inRange Record.holdsByState
      decide
    exact h
  queue := by unfold State.queueLaw; decide
  running := by unfold State.runningLaw; decide
  fresh := by
    intro e he x hx
    simp only [closing, List.mem_cons, List.not_mem_nil, or_false] at he
    subst he
    refine ⟨fun _ => ⟨{}, ?_⟩, fun hr => (by cases hr)⟩
    cases hx; rfl
  chain := by unfold State.chainLaw; decide
  route := by unfold State.routeLaw; decide
  empty := fun h => by cases h
  segCount := by unfold State.segCountLaw; decide +kernel
  segState := fun n _ => by
    by_cases h3 : n = 3
    · subst h3
      exact ⟨fun h => absurd rfl h, fun _ => .inl rfl, by decide, by decide⟩
    · have hc : closing.seg.applied.covers n = false := by
        show ({} : Windows).covers n = false
        exact covers_zero n
      rw [closing_other h3, hc]
      exact ⟨fun h => absurd rfl h, fun _ => .inr ⟨rfl, rfl⟩, ⟨fun hx => (by cases hx), fun hx => (by cases hx)⟩,
        fun hx => (by cases hx)⟩
  revisit := ⟨List.nodup_nil, fun n hn => (by cases hn), fun n _ hn => by
    by_cases h3 : n = 3
    · subst h3; cases hn
    · rw [closing_other h3] at hn; cases hn⟩
  window := by unfold State.windowLaw Windows.inRange; decide
  tx := by unfold State.txLaw; decide
  link := ⟨by decide, by decide, by decide, by decide, by decide, by decide, by decide, by decide, trivial⟩
  upload := by unfold State.uploadLaw; decide
  channel := by unfold State.channelLaw Channel.inRange Stats.inRange; decide +kernel
  settings := ⟨default_settings, fun c hc => (by cases hc), List.length_replicate⟩
  port := by unfold State.portLaw; decide
  power := fun h => absurd rfl h
  hold := fun h => by cases h

/-- An ACCEPT in ACTIVE, and one in CLOSED that retires the last record. -/
theorem witness_AcceptedBlockRetiresItsRecords :
    (demo.Laws ∧ demo.link.state = .locked ∧ demo.upload.table.find? (fun x => x.block == 7#8) = some ⟨7#8, [0], 1⟩
        ∧ demo.route.state ≠ .closed)
    ∧ (closing.Laws ∧ closing.link.state = .locked
        ∧ closing.upload.table.find? (fun x => x.block == 7#8) = some ⟨7#8, [0], 1⟩ ∧ closing.route.state = .closed
        ∧ closing.roster.slots.filter (fun e => !decide (e.1 ∈ [0])) = []) :=
  ⟨⟨demo_laws, rfl, by decide, by decide⟩, closing_laws, rfl, by decide, rfl, by decide⟩

theorem witness_PortJudgesTransactions :
    (⟨0x01#8, 0, .status⟩ : HostRow) ∈ hostRows ∧ ¬ State.reset.listens
    ∧ (⟨[], false, true⟩ : Tx).dropped = true ∧ demo.listens ∧ (⟨[], false, false⟩ : Tx).dropped = false
    ∧ (⟨[], false, false⟩ : Tx).rest = [] ∧ (⟨[0#8], true, false⟩ : Tx).partialEnd = true
    ∧ ([] : List Byte).length ≠ (1#8).toNat ∧ (1#8).toNat ≠ 0 ∧ 0x7F#8 ≠ 0xF0#8 ∧ ∀ h ∈ hostRows, h.code ≠ 0x7F#8 :=
  ⟨List.mem_cons_self, fun h => (by cases h.1), rfl, ⟨rfl, rfl⟩, rfl, rfl, rfl, by decide, by decide, by decide,
   by simp [hostRows]⟩

theorem witness_ResponseReadsTheBuffer :
    ¬ State.reset.listens ∧ up.listens ∧ up.port.buffer = none
    ∧ ({ up with port.buffer := some ⟨.ok, [1#8]⟩ } : State).listens
    ∧ ({ up with port.buffer := some ⟨.ok, [1#8]⟩ } : State).port.buffer = some ⟨.ok, [1#8]⟩
    ∧ 2 + [1#8].length ≤ 3 ∧ ¬ (2 + [1#8].length ≤ 2) :=
  ⟨fun h => (by cases h.1), ⟨rfl, rfl⟩, rfl, ⟨rfl, rfl⟩, rfl, by decide, by decide⟩

theorem witness_StandingIsReported :
    demo.listens ∧ 4 ≤ (4#8).toNat ∧ (3#8).toNat = (3 : Fin 4).val := ⟨⟨rfl, rfl⟩, by decide, rfl⟩

theorem witness_SettingsAreWrittenAndCommitted :
    (List.replicate 12 0xFF#8).length = 12 ∧ demo.listens
    ∧ ({ up with store.commit := some ⟨{}, 0⟩ } : State).listens
    ∧ ({ up with store.commit := some ⟨{}, 0⟩ } : State).store.commit ≠ none
    ∧ demo.store.commit = none ∧ ({ up with store.commit := some ⟨{}, 0⟩ } : State).store.commit = some ⟨{}, 0⟩
    ∧ 4 ≤ (4#8).toNat ∧ (3#8).toNat = (3 : Fin 4).val :=
  ⟨by decide, ⟨rfl, rfl⟩, ⟨rfl, rfl⟩, by decide, rfl, rfl, by decide, rfl⟩

theorem witness_CommittedImageLoadsBack :
    (List.replicate 256 0xFF#8).length = 256 ∧ ({} : Settings).inRange := ⟨List.length_replicate, default_settings⟩

theorem witness_PinsFollowTheState :
    ¬ State.reset.listens ∧ demo.listens ∧ ({ up with lines := { indWait := true } } : State).listens
    ∧ ({ up with lines := { indWait := true } } : State).lines.indWait = true ∧ demo.lines.indWait = false :=
  ⟨fun h => (by cases h.1), ⟨rfl, rfl⟩, ⟨rfl, rfl⟩, rfl, rfl⟩

end Sys2Proof.Tests
end

/-! PROOFS. The family of the meter roster: RETIRE, REEVALUATE, PROFILE READ and PROFILE WRITE (R12, R13, R16, R26, R27). -/

namespace Sys2Proof.Machine

/-! ## The answers of a command's owner (R187, R188) -/

/-- What a command's owner replies is what the command answers; the fill of MISO passes through to the answered state. -/
theorem answers_of_reply {c : Tx → Instr} {code : Byte} {len : Nat} {owner : List Byte → State → Answer} {args : List Byte}
    {s t : State} {st : Status} {data : List Byte}
    (hc : ∀ (tx : Tx) (s : State), exec (c tx) s = command code len owner tx s)
    (hs : s.listens) (ha : args.length = len) (hl : len < 256)
    (h : owner args (carryFill (txCarrying args) s) = reply st data (carryFill (txCarrying args) t)) :
    Answers c args s st data t := by
  rw [Answers, hc, command_carrying hs ha hl, h, reply, answer_carryFill]

theorem exec_retire (tx : Tx) (s : State) : exec (.retire tx) s = command 0x25#8 6 commandRetire tx s := rfl

theorem exec_reevaluate (tx : Tx) (s : State) : exec (.reevaluate tx) s = command 0x26#8 6 commandReevaluate tx s := rfl

theorem exec_profileWrite (tx : Tx) (s : State) : exec (.profileWrite tx) s = command 0x28#8 14 commandProfileWrite tx s := rfl

theorem exec_profileRead (tx : Tx) (s : State) : exec (.profileRead tx) s = command 0x29#8 1 commandProfileRead tx s := rfl

/-! ## Arguments that name a record (R18) -/

/-- A slot number followed by a meter_id reads back the slot number. -/
theorem fieldAt_slot {slot : Nat} (h : slot < 65536) (rest : List Byte) : fieldAt (beBytes 2 slot ++ rest) 0 2 = slot := by
  rw [fieldAt_head, Nat.mod_eq_of_lt (by omega)]

/-- A slot number followed by a meter_id reads back the meter_id. -/
theorem fieldAt_meterId (slot : Nat) (id : Word) :
    BitVec.ofNat 32 (fieldAt (beBytes 2 slot ++ beBytes 4 id.toNat) 2 4) = id := by
  have hf : fieldAt (beBytes 4 id.toNat) 0 4 = id.toNat := by
    simpa [Nat.mod_eq_of_lt id.isLt] using fieldAt_head 4 id.toNat []
  rw [fieldAt_append _ _ _ _ (by simp), beBytes_length, hf, BitVec.ofNat_toNat, BitVec.setWidth_eq]

/-- A slot number and a meter_id name no record exactly when the slot is out of range, free, or holds another meter. -/
theorem named_eq_none_iff {s : State} {slot : Nat} {id : Word} :
    s.named slot id = none ↔ ¬ (slot < 8192 ∧ ∃ r, s.recordAt slot = some r ∧ r.meterId = id) := by
  rw [Option.eq_none_iff_forall_ne_some]
  simp only [ne_eq, named_iff]
  grind

/-! ## A lookup that finds nothing -/

/-- Where no occupied slot holds the identifier, its lookup finds nothing (R9). -/
theorem lookup_eq_none {s : State} {id : Word} (h : ∀ n r, s.recordAt n = some r → r.meterId ≠ id) :
    s.lookup id = none := by
  cases hl : s.lookup id with
  | none => rfl
  | some n =>
    obtain ⟨r, hr, hid⟩ := lookup_sound hl
    exact absurd hid (h n r hr)

/-! ## How many records name a segment (R123) -/

/-- A record is counted in the segment it names. -/
theorem countNaming_pos {s : State} {slot : Nat} {r : Record} (p : Record → Bool) (h : s.recordAt slot = some r)
    (hp : p r = true) : 0 < s.countNaming r.segment p :=
  List.length_pos_of_mem (List.mem_filter.2 ⟨mem_of_tableGet h, by simp [hp]⟩)

/-- A record that fails the test leaves the count of those that pass it below the count of all. -/
theorem countNaming_lt {s : State} {slot : Nat} {r : Record} (p : Record → Bool) (h : s.recordAt slot = some r)
    (hp : p r = false) : s.countNaming r.segment p < s.countNaming r.segment (fun _ => true) := by
  have hsplit : s.roster.slots.filter (fun e => decide (e.2.segment = r.segment) && p e.2)
      = (s.roster.slots.filter (fun e => decide (e.2.segment = r.segment) && true)).filter (fun e => p e.2) := by
    rw [List.filter_filter]
    simp [Bool.and_comm]
  have hmem : (slot, r) ∈ s.roster.slots.filter (fun e => decide (e.2.segment = r.segment) && true) :=
    List.mem_filter.2 ⟨mem_of_tableGet h, by simp⟩
  rw [State.countNaming, State.countNaming, hsplit, List.length_filter_lt_length_iff_exists]
  exact ⟨(slot, r), hmem, by simp [hp]⟩

/-- The entry of a segment counts a record among its members, and as one it still owes when the record is EXPECTED. -/
def SegEntry.counts (e : SegEntry) (r : Record) : Prop :=
  1 ≤ e.members
  ∧ (r.state = .expected → e.read < e.members)
  ∧ (r.state = .expected → e.state ≠ .closed → e.state.owes = true)

/-- A segment that fits its state and has an unread member owes a reading (R125, Table 7-3). -/
theorem owes_of_fits {e : SegEntry} {covered : Bool} (hf : e.fits covered) (hu : e.read < e.members) :
    e.state.owes = true := by
  unfold SegEntry.fits at hf
  cases he : e.state <;> simp only [he] at hf
  case vacant => omega
  case complete => omega
  all_goals rfl

/-- Under the laws the segment that a record names counts it (R123, R124, R148). -/
theorem State.Laws.counts_record {s : State} (hs : s.Laws) {slot : Nat} {r : Record} (h : s.recordAt slot = some r) :
    (s.segAt r.segment).counts r := by
  obtain ⟨⟨-, -, -, hseg, -⟩, -, -⟩ := hs.record _ (mem_of_tableGet h)
  have hn : r.segment < 1024 := Nat.lt_succ_of_le hseg
  obtain ⟨hmembers, hread, -⟩ := hs.segCount _ hn
  obtain ⟨hopen, hclosed, -, -⟩ := hs.segState _ hn
  have hpos : 1 ≤ (s.segAt r.segment).members := hmembers ▸ countNaming_pos _ h rfl
  have hunread : r.state = .expected → (s.segAt r.segment).read < (s.segAt r.segment).members := fun hx => by
    rw [hmembers, hread]
    exact countNaming_lt _ h (by simp [hx])
  refine ⟨hpos, hunread, fun hx hc => ?_⟩
  by_cases hr : s.route.state = .closed
  · rcases hclosed hr with hcl | ⟨-, h0⟩
    · exact absurd hcl hc
    · omega
  · exact owes_of_fits (hopen hr) (hunread hx)

/-! ## A segment that loses a member (R123, R125, R126, R129) -/

theorem segAt_vacateSeg (n m : Nat) (s : State) :
    (vacateSeg n s).segAt m = if m = n then { s.segAt n with state := .vacant, deadline := none } else s.segAt m :=
  segAt_setSeg _ _ _ _

theorem segAt_completeSeg (n m : Nat) (s : State) :
    (completeSeg n s).segAt m = if m = n then { s.segAt n with state := .complete, deadline := none } else s.segAt m :=
  segAt_setSeg _ _ _ _

/-- The entry with a record taken off its counts (R123). -/
def SegEntry.without (e : SegEntry) (r : Record) : SegEntry :=
  { e with
    members := e.members - 1
    read := if r.state = .expected then e.read else e.read - 1
    flagged := if r.state = .flagged then e.flagged - 1 else e.flagged }

/-- A record taken off the counts of a segment, before the segment is settled. -/
def uncount (n : Nat) (r : Record) (s : State) : State := setSeg n ((s.segAt n).without r) s

@[simp] theorem segAt_uncount (n m : Nat) (r : Record) (s : State) :
    (uncount n r s).segAt m = if m = n then (s.segAt n).without r else s.segAt m :=
  segAt_setSeg _ _ _ _

/-- A segment that loses a member is uncounted, and then becomes VACANT, completes, or stays in its state. -/
theorem segLose_cases (n : Nat) (r : Record) (s : State) :
    ((s.segAt n).state ≠ .closed ∧ (s.segAt n).members ≤ 1 ∧ segLose n r s = vacateSeg n (uncount n r s))
    ∨ ((s.segAt n).state ≠ .closed ∧ 1 < (s.segAt n).members
        ∧ (r.state = .expected ∧ (s.segAt n).members ≤ (s.segAt n).read + 1 ∧ (s.segAt n).state.owes = true)
        ∧ segLose n r s = completeSeg n (uncount n r s))
    ∨ (((s.segAt n).state = .closed ∨ 1 < (s.segAt n).members
          ∧ ¬ (r.state = .expected ∧ (s.segAt n).members ≤ (s.segAt n).read + 1 ∧ (s.segAt n).state.owes = true))
        ∧ segLose n r s = uncount n r s) := by
  have hdef : segLose n r s
      = if (s.segAt n).state = .closed then uncount n r s
        else if (s.segAt n).members - 1 = 0 then vacateSeg n (uncount n r s)
        else if r.state = .expected then completeIfRead n (uncount n r s)
        else uncount n r s := rfl
  rw [hdef]
  split_ifs with hc hm hx
  · exact .inr (.inr ⟨.inl hc, rfl⟩)
  · exact .inl ⟨hc, by omega, rfl⟩
  · have hgt : 1 < (s.segAt n).members := by omega
    rcases completeIfRead_cases n (uncount n r s) with ⟨-, hread, howes, h⟩ | ⟨hnot, h⟩
    · simp only [segAt_uncount, if_true, SegEntry.without, hx] at hread howes
      exact .inr (.inl ⟨hc, hgt, ⟨hx, by omega, howes⟩, h⟩)
    · simp only [segAt_uncount, if_true, SegEntry.without, hx] at hnot
      exact .inr (.inr ⟨.inr ⟨hgt, fun ⟨_, hread, howes⟩ => hnot ⟨by omega, by omega, howes⟩⟩, h⟩)
  · exact .inr (.inr ⟨.inr ⟨by omega, fun h => hx h.1⟩, rfl⟩)

/-- A loss of a member changes the Segment Tracker, the pending causes and the pulse alone. -/
theorem segLose_frame (n : Nat) (r : Record) (s : State) :
    segLose n r s
      = { s with
          seg := (segLose n r s).seg
          port.causes := (segLose n r s).port.causes
          lines.pulse := (segLose n r s).lines.pulse } := by
  rcases segLose_cases n r s with ⟨-, -, h⟩ | ⟨-, -, -, h⟩ | ⟨-, h⟩ <;> rw [h] <;> rfl

@[simp] theorem segLose_roster (n : Nat) (r : Record) (s : State) : (segLose n r s).roster = s.roster := by
  rw [segLose_frame]

@[simp] theorem segLose_route (n : Nat) (r : Record) (s : State) : (segLose n r s).route = s.route := by
  rw [segLose_frame]

/-- The loss of a member leaves the segment VACANT (R126). -/
abbrev SegEntry.vacates (e : SegEntry) : Prop := e.state ≠ .closed ∧ e.members = 1

/-- The loss of the record completes the segment (R125). -/
abbrev SegEntry.completesWithout (e : SegEntry) (r : Record) : Prop :=
  r.state = .expected ∧ e.state ≠ .closed ∧ 1 < e.members ∧ e.read + 1 = e.members

/-- A record taken off a segment that counts it, with the segment settled: the last member leaves it VACANT, the last unread
member completes it, and a CLOSED segment stays CLOSED; nothing else changes but the Revisit List, the cause and the pulse of
a completion (R123, R125, R126, R148, R200). -/
def SegmentLost (n : Nat) (r : Record) (s t : State) : Prop :=
  let e := s.segAt n
  t = { s with
      seg := { s.seg with
        table := t.seg.table
        revisit := if e.vacates ∨ e.completesWithout r then s.seg.revisit.filter (fun m => m != n) else s.seg.revisit }
      port.causes := if e.completesWithout r then s.port.causes ||| attSegmentComplete else s.port.causes
      lines.pulse := if e.completesWithout r then 5 else s.lines.pulse }
  ∧ t.segAt n = { e.without r with
      state := if e.vacates then .vacant else if e.completesWithout r then .complete else e.state
      deadline := if e.vacates ∨ e.completesWithout r then none else e.deadline }
  ∧ ∀ m, m ≠ n → t.segAt m = s.segAt m

/-- The loss of a member that the segment counts. -/
theorem segLose_settles {n : Nat} {r : Record} {s : State} (hc : (s.segAt n).counts r) :
    SegmentLost n r s (segLose n r s) := by
  obtain ⟨hpos, hunread, howes⟩ := hc
  rcases segLose_cases n r s with ⟨hopen, hone, h⟩ | ⟨hopen, hmany, ⟨hx, hread, -⟩, h⟩ | ⟨hstay, h⟩
  · have hv : (s.segAt n).vacates := ⟨hopen, by omega⟩
    have hk : ¬ (s.segAt n).completesWithout r := fun ⟨_, _, hgt, _⟩ => by omega
    simp only [SegmentLost, h, if_pos hv, if_neg hk, if_pos (Or.inl hv)]
    exact ⟨rfl, by simp [segAt_vacateSeg], fun m hm => by simp [segAt_vacateSeg, hm]⟩
  · have hv : ¬ (s.segAt n).vacates := fun ⟨_, hone⟩ => by omega
    have hk : (s.segAt n).completesWithout r := ⟨hx, hopen, hmany, by have := hunread hx; omega⟩
    simp only [SegmentLost, h, if_neg hv, if_pos hk, if_pos (Or.inr hk)]
    exact ⟨rfl, by simp [segAt_completeSeg], fun m hm => by simp [segAt_completeSeg, hm]⟩
  · have hv : ¬ (s.segAt n).vacates := fun ⟨hopen, hone⟩ => by
      rcases hstay with hcl | ⟨hgt, -⟩
      · exact hopen hcl
      · omega
    have hk : ¬ (s.segAt n).completesWithout r := fun ⟨hx, hopen, _, hread⟩ => by
      rcases hstay with hcl | ⟨-, hnot⟩
      · exact hopen hcl
      · exact hnot ⟨hx, by omega, howes hx hopen⟩
    simp only [SegmentLost, h, if_neg hv, if_neg hk, if_neg (not_or.2 ⟨hv, hk⟩)]
    exact ⟨rfl, by simp [SegEntry.without], fun m hm => by simp [hm]⟩

/-- The fill of MISO and the loss of a member do not meet. -/
theorem segLose_carryFill (tx : Tx) (n : Nat) (r : Record) (s : State) :
    segLose n r (carryFill tx s) = carryFill tx (segLose n r s) := by
  simp only [segLose, completeIfRead, apply_ite (carryFill tx)]
  rfl

/-! ## A retirement (R16) -/

/-- A record off the roster, the index, the chain and the Evaluation Unit: the retirement before its segment's part. -/
def dropSlot (slot : Nat) (s : State) : State :=
  { s with
    roster := { slots := tableDel s.roster.slots slot, index := s.roster.index.filter (fun e => e.2 != slot) }
    chain := s.chain.filter (· != slot)
    eval := departEval slot s.eval }

/-- It is the last record of a CLOSED route (R46). -/
def State.lastOfClosed (s : State) (slot : Nat) : Prop :=
  s.route.state = .closed ∧ ∀ x ∈ s.roster.slots, x.1 = slot

/-- The table without a key is empty exactly when it lists no other key. -/
theorem tableDel_eq_nil {α : Type} {m : List (Nat × α)} {k : Nat} : tableDel m k = [] ↔ ∀ x ∈ m, x.1 = k := by
  simp [tableDel, List.filter_eq_nil_iff]

/-- A retirement drops the slot and takes its record off its segment; then the last one of a CLOSED route returns it to EMPTY
(R16, R46). -/
theorem retireSlot_eq {s : State} {slot : Nat} {r : Record} (h : s.recordAt slot = some r) :
    retireSlot slot s
      = if s.route.state = .closed ∧ tableDel s.roster.slots slot = [] then
          returnToEmpty (segLose r.segment r (dropSlot slot s))
        else segLose r.segment r (dropSlot slot s) := by
  have hdef : retireSlot slot s
      = if (segLose r.segment r (dropSlot slot s)).route.state = .closed
            ∧ (segLose r.segment r (dropSlot slot s)).roster.slots = [] then
          returnToEmpty (segLose r.segment r (dropSlot slot s))
        else segLose r.segment r (dropSlot slot s) := by
    simp only [retireSlot, h]
    rfl
  rw [hdef, segLose_route, segLose_roster]
  rfl

/-- The last retirement of a CLOSED route returns it to EMPTY (R46). -/
theorem retireSlot_of_last {s : State} {slot : Nat} {r : Record} (h : s.recordAt slot = some r)
    (hl : s.lastOfClosed slot) : retireSlot slot s = returnToEmpty (segLose r.segment r (dropSlot slot s)) := by
  rw [retireSlot_eq h, if_pos ⟨hl.1, tableDel_eq_nil.2 hl.2⟩]

/-- Any other retirement leaves the route as it stands. -/
theorem retireSlot_of_not_last {s : State} {slot : Nat} {r : Record} (h : s.recordAt slot = some r)
    (hl : ¬ s.lastOfClosed slot) : retireSlot slot s = segLose r.segment r (dropSlot slot s) := by
  rw [retireSlot_eq h, if_neg fun ⟨hc, hd⟩ => hl ⟨hc, tableDel_eq_nil.1 hd⟩]

/-- The fill of MISO and a retirement do not meet. -/
theorem retireSlot_carryFill (tx : Tx) {s : State} {slot : Nat} {r : Record} (h : s.recordAt slot = some r) :
    retireSlot slot (carryFill tx s) = carryFill tx (retireSlot slot s) := by
  have hseg : segLose r.segment r (dropSlot slot (carryFill tx s))
      = carryFill tx (segLose r.segment r (dropSlot slot s)) := segLose_carryFill tx _ r (dropSlot slot s)
  rw [retireSlot_eq (s := carryFill tx s) h, retireSlot_eq h, hseg, apply_ite (carryFill tx)]
  rfl

/-- A retirement changes the scan cursor alone of the Upload Engine, and neither the supply, the pins, the draws nor the
queue. -/
theorem retireSlot_frame {s : State} {slot : Nat} {r : Record} (h : s.recordAt slot = some r) :
    let t := retireSlot slot s
    t.upload = { s.upload with cursor := t.upload.cursor }
      ∧ t.power = s.power ∧ t.resetLow = s.resetLow ∧ t.dockPresent = s.dockPresent ∧ t.draws = s.draws
      ∧ t.pending = s.pending := by
  have hframe := segLose_frame r.segment r (dropSlot slot s)
  by_cases hl : s.lastOfClosed slot
  · simp only [retireSlot_of_last h hl]
    rw [hframe]
    refine ⟨?_, rfl, rfl, rfl, rfl, rfl⟩
    simp only [returnToEmpty_upload, Upload.passOver, dropSlot]
    split_ifs <;> rfl
  · simp only [retireSlot_of_not_last h hl]
    rw [hframe]
    exact ⟨rfl, rfl, rfl, rfl, rfl, rfl⟩

/-- After the drop of a slot no record holds the dropped meter's identifier, for identifiers are unique (R10). -/
theorem lookup_dropped {s t : State} (hs : s.Laws) {slot : Nat} {r : Record} (h : s.recordAt slot = some r)
    (ht : t.roster = (dropSlot slot s).roster) : t.lookup r.meterId = none := by
  obtain ⟨hunique, -, -⟩ := hs.index
  refine lookup_eq_none fun n x hx hid => ?_
  have hget : tableGet (tableDel s.roster.slots slot) n = some x := by
    rw [State.recordAt, ht] at hx
    exact hx
  have hne : n ≠ slot := by
    rintro rfl
    rw [tableGet_del_same] at hget
    cases hget
  rw [tableGet_del_other _ hne] at hget
  exact hne (hunique _ (mem_of_tableGet hget) _ (mem_of_tableGet h) hid)

/-- A retirement of a record takes it off every block it stands in (R16). -/
theorem retireSlot_retires {s : State} (hs : s.Laws) {slot : Nat} {r : Record} (h : s.recordAt slot = some r) :
    Retired slot r s (retireSlot slot s) := by
  obtain ⟨hframe, hseg, hother⟩ : SegmentLost r.segment r (dropSlot slot s) (segLose r.segment r (dropSlot slot s)) :=
    segLose_settles (s := dropSlot slot s) (hs.counts_record h)
  have hroster := segLose_roster r.segment r (dropSlot slot s)
  have hlookup : (retireSlot slot s).lookup r.meterId = none := by
    refine lookup_dropped hs h ?_
    rw [retireSlot_eq h]
    split_ifs <;> exact hroster
  by_cases hl : s.lastOfClosed slot
  · rw [retireSlot_of_last h hl] at hlookup ⊢
    generalize segLose r.segment r (dropSlot slot s) = u at *
    have hcursor : (returnToEmpty u).upload.cursor = if s.upload.state = .passing then none else s.upload.cursor := by
      rw [hframe]
      simp only [returnToEmpty_upload, Upload.passOver, dropSlot]
      split_ifs <;> rfl
    refine ⟨?_, ?_, hlookup, ?_, ?_, ?_, fun _ => ⟨rfl, rfl, hcursor⟩, fun hn => absurd hl hn, ?_, ?_, ?_, ?_, ?_, ?_⟩
    all_goals rw [hframe]; rfl
  · rw [retireSlot_of_not_last h hl] at hlookup ⊢
    generalize segLose r.segment r (dropSlot slot s) = u at *
    refine ⟨?_, ?_, hlookup, ?_, ?_, ?_, fun hn => absurd hn hl, fun _ => ⟨?_, ?_, hseg, hother, ?_, ?_, ?_⟩,
      ?_, ?_, ?_, ?_, ?_, ?_⟩
    all_goals rw [hframe]; rfl

/-! ## RETIRE and REEVALUATE (R26, R27) -/

section
variable {s : State} {slot : Nat} {id : Word} {r : Record}

/-- RETIRE outside READY, ACTIVE and CLOSED is refused (R26). -/
theorem commandRetire_wrongRouteState (args : List Byte)
    (ho : ¬ (s.route.state = .ready ∨ s.route.state = .active ∨ s.route.state = .closed)) :
    commandRetire args s = reply .wrongRouteState [] s :=
  if_neg ho

/-- RETIRE of no record is refused (R18, R26). -/
theorem commandRetire_notFound (hslot : slot < 65536)
    (ho : s.route.state = .ready ∨ s.route.state = .active ∨ s.route.state = .closed) (hn : s.named slot id = none) :
    commandRetire (beBytes 2 slot ++ beBytes 4 id.toNat) s = reply .notFound [] s := by
  simp only [commandRetire, if_pos ho, fieldAt_slot hslot, fieldAt_meterId, hn]

/-- RETIRE of a CARRIED record is refused (R26). -/
theorem commandRetire_inFlight (hslot : slot < 65536)
    (ho : s.route.state = .ready ∨ s.route.state = .active ∨ s.route.state = .closed) (hn : s.named slot id = some r)
    (hc : r.upload.isCarried = true) :
    commandRetire (beBytes 2 slot ++ beBytes 4 id.toNat) s = reply .inFlight [] s := by
  simp only [commandRetire, if_pos ho, fieldAt_slot hslot, fieldAt_meterId, hn, if_pos hc]

/-- RETIRE of an IDLE record retires it (R26). -/
theorem commandRetire_ok (hslot : slot < 65536)
    (ho : s.route.state = .ready ∨ s.route.state = .active ∨ s.route.state = .closed) (hn : s.named slot id = some r)
    (hc : r.upload.isCarried = false) :
    commandRetire (beBytes 2 slot ++ beBytes 4 id.toNat) s = reply .ok [] (retireSlot slot s) := by
  simp only [commandRetire, if_pos ho, fieldAt_slot hslot, fieldAt_meterId, hn, hc, Bool.false_eq_true, if_false]

/-- REEVALUATE of no record is refused (R18, R27). -/
theorem commandReevaluate_notFound (hslot : slot < 65536) (hn : s.named slot id = none) :
    commandReevaluate (beBytes 2 slot ++ beBytes 4 id.toNat) s = reply .notFound [] s := by
  simp only [commandReevaluate, fieldAt_slot hslot, fieldAt_meterId, hn]

/-- REEVALUATE of a record without a reading is refused (R27). -/
theorem commandReevaluate_noReading (hslot : slot < 65536) (hn : s.named slot id = some r) (hx : r.reading = none) :
    commandReevaluate (beBytes 2 slot ++ beBytes 4 id.toNat) s = reply .noReading [] s := by
  simp only [commandReevaluate, fieldAt_slot hslot, fieldAt_meterId, hn, hx, Option.isSome_none, Bool.false_eq_true,
    if_false]

/-- REEVALUATE of a record with a reading bumps it, marks it superseded and requests its evaluation (R27). -/
theorem commandReevaluate_ok (hslot : slot < 65536) (hn : s.named slot id = some r) (hx : r.reading ≠ none) :
    commandReevaluate (beBytes 2 slot ++ beBytes 4 id.toNat) s
      = reply .ok [r.bump.generation] (requestEval slot (setRecord slot r.bump.supersede s)) := by
  simp only [commandReevaluate, fieldAt_slot hslot, fieldAt_meterId, hn, if_pos (Option.isSome_iff_ne_none.2 hx)]

end

/-- The second of two writes to one key is the one that stands. -/
theorem tablePut_tablePut {α : Type} (m : List (Nat × α)) (k : Nat) (v w : α) :
    tablePut (tablePut m k v) k w = tablePut m k w := by
  induction m with
  | nil => simp [tablePut]
  | cons e t ih =>
    simp only [tablePut]
    split_ifs with hlt heq
    · simp [tablePut]
    · simp [tablePut]
    · simp [tablePut, hlt, heq, ih]

/-- The second of two writes to one slot is the one that stands. -/
theorem setRecord_setRecord (slot : Nat) (r r' : Record) (s : State) :
    setRecord slot r' (setRecord slot r s) = setRecord slot r' s := by
  simp only [setRecord, tablePut_tablePut]

/-- A superseded record keeps its block number, and an IDLE one is unchanged (R5). -/
theorem supersede_eq (r : Record) :
    r.supersede = { r with upload := if r.upload.isCarried = true then .carried r.upload.blockCode true else r.upload } := by
  unfold Record.supersede
  cases hu : r.upload with
  | idle => simp [UploadMark.isCarried, ← hu]
  | carried block mark => rfl

/-- A record written and its evaluation requested: it is QUEUED, and in the queue once (R89). -/
theorem requestEval_setRecord (slot : Nat) (r : Record) (s : State) :
    requestEval slot (setRecord slot r s)
      = { setRecord slot { r with eval := .queued } s with
          eval.queue := if r.eval = .queued then s.eval.queue else s.eval.queue ++ [slot] } := by
  have hr : (setRecord slot r s).recordAt slot = some r := recordAt_setRecord_same slot r s
  by_cases hq : r.eval = .queued
  · rw [requestEval_queued hr hq, if_pos hq, ← hq]
    rfl
  · rw [requestEval_joins hr hq, if_neg hq, setRecord_setRecord]
    rfl

/-- Settles O38: the branches of the two owners in turn, with `retireSlot_retires` for what a retirement does and
`requestEval_setRecord` for what a re-evaluation does. -/
theorem retireAndReevaluate : Obligations.RetireAndReevaluate := by
  intro s slot id hs hslot args open' missing
  have retires {st data t} : commandRetire args (carryFill (txCarrying args) s)
      = reply st data (carryFill (txCarrying args) t) → Answers .retire args s st data t :=
    answers_of_reply exec_retire hs (by simp [args]) (by decide)
  have reevaluates {st data t} : commandReevaluate args (carryFill (txCarrying args) s)
      = reply st data (carryFill (txCarrying args) t) → Answers .reevaluate args s st data t :=
    answers_of_reply exec_reevaluate hs (by simp [args]) (by decide)
  refine ⟨fun ho => retires (commandRetire_wrongRouteState args ho),
    fun ho hm => retires (commandRetire_notFound hslot ho (named_eq_none_iff.2 hm)),
    fun hm => reevaluates (commandReevaluate_notFound hslot (named_eq_none_iff.2 hm)),
    fun r hlt hr hid => ?_⟩
  have hn : s.named slot id = some r := named_iff.2 ⟨hlt, hr, hid⟩
  refine ⟨fun ho hc => retires (commandRetire_inFlight hslot ho hn hc), fun hlaws ho hc => ?_,
    fun hx => reevaluates (commandReevaluate_noReading hslot hn hx), fun hx => reevaluates ?_⟩
  · refine ⟨retireSlot slot s, retires ?_, retireSlot_retires hlaws hr, retireSlot_frame hr⟩
    rw [← retireSlot_carryFill _ hr]
    exact commandRetire_ok hslot ho hn hc
  · refine (commandReevaluate_ok (s := carryFill (txCarrying args) s) hslot hn hx).trans ?_
    rw [requestEval_setRecord, supersede_eq]
    rfl

/-! ## PROFILE READ and PROFILE WRITE (R12, R13) -/

/-- The entries of a list read by their places. -/
theorem map_range_getD {α β : Type} (l : List α) (d : α) (f : α → β) :
    (List.range l.length).map (fun i => f (l.getD i d)) = l.map f := by
  refine List.ext_getElem (by simp) fun i hi hi' => ?_
  simp at hi'
  simp [hi']

/-- The profile that 13 bytes give, with digits and k brought into range (R12). -/
theorem profileOf_bytes (digits t k : Byte) {ws : List Byte} (hw : ws.length = 10) :
    profileOf (digits :: t :: k :: ws)
      = { digits := max 4 (min 9 digits.toNat), threshold := t.toNat, smoothing := min 31 k.toNat,
          weights := ws.map (fun w => w.toNat) } := by
  have hweights : (List.range 10).map (fun i => (byteAt (digits :: t :: k :: ws) (3 + i)).toNat)
      = ws.map (fun w => w.toNat) := by
    rw [← map_range_getD ws 0#8, hw]
    exact List.map_congr_left fun i _ => by rw [byteAt, Nat.add_comm]; rfl
  simp only [profileOf, hweights]
  rfl

/-- The bytes of a profile whose threshold and weights are bytes (12.5). -/
theorem Profile.bytes_of_bytes (digits smoothing : Nat) (t : Byte) {ws : List Byte} (hw : ws.length = 10) :
    Profile.bytes { digits := digits, threshold := t.toNat, smoothing := smoothing, weights := ws.map (fun w => w.toNat) }
      = BitVec.ofNat 8 digits :: t :: BitVec.ofNat 8 smoothing :: ws := by
  have hweights := map_range_getD (ws.map (fun w => w.toNat)) 0 (BitVec.ofNat 8)
  rw [List.length_map, hw] at hweights
  simp only [Profile.bytes, hweights, List.map_map, Function.comp_def, BitVec.ofNat_toNat, BitVec.setWidth_eq, List.map_id']
  rfl

/-- A record clashes with a new modulus when it names the profile and its baseline or its reading reaches the modulus. -/
theorem profileClash_iff (n modulus : Nat) (r : Record) :
    profileClash n modulus r = true
      ↔ r.profile = n ∧ (modulus ≤ r.baseline ∨ ∃ x, r.reading = some x ∧ modulus ≤ x.value) := by
  simp [profileClash, Option.any_eq_true]

section
variable {s : State} {args : List Byte}

/-- PROFILE WRITE during a commit is refused (R12). -/
theorem commandProfileWrite_busy (hc : s.store.commit ≠ none) : commandProfileWrite args s = reply .busy [] s :=
  if_pos (Option.isSome_iff_ne_none.2 hc)

/-- PROFILE WRITE of a number above 15 is refused (R12). -/
theorem commandProfileWrite_badProfile (hc : s.store.commit = none) (hn : 16 ≤ (byteAt args 0).toNat) :
    commandProfileWrite args s = reply .badProfile [] s := by
  simp [commandProfileWrite, hc, Nat.not_lt.2 hn]

/-- PROFILE WRITE that a record of the profile clashes with is refused (R12). -/
theorem commandProfileWrite_badBaseline (hc : s.store.commit = none) (hn : (byteAt args 0).toNat < 16)
    (hx : s.roster.slots.any (fun e =>
      profileClash (byteAt args 0).toNat (modulusOf (profileOf (args.drop 1)).digits) e.2) = true) :
    commandProfileWrite args s = reply .badBaseline [] s := by
  rw [commandProfileWrite, if_neg (by simp [hc]), dif_pos hn, if_pos hx]

/-- PROFILE WRITE that passes its checks replaces the profile (R12). -/
theorem commandProfileWrite_ok (hc : s.store.commit = none) (hn : (byteAt args 0).toNat < 16)
    (hx : ¬ s.roster.slots.any (fun e =>
      profileClash (byteAt args 0).toNat (modulusOf (profileOf (args.drop 1)).digits) e.2) = true) :
    commandProfileWrite args s
      = reply .ok (byteAt args 0 :: (profileOf (args.drop 1)).bytes)
          { s with store.live.profiles :=
              s.store.live.profiles.set (byteAt args 0).toNat (profileOf (args.drop 1)) hn } := by
  rw [commandProfileWrite, if_neg (by simp [hc]), dif_pos hn, if_neg hx]

end

/-- Settles O39: the branches of the two owners in turn, with `profileOf_bytes` for the profile that the arguments give and
`Profile.bytes_of_bytes` for the answer that shows it. -/
theorem profilesAreReadAndWritten : Obligations.ProfilesAreReadAndWritten := by
  intro s n digits t k ws hs hw args p clash
  have hp : profileOf (args.drop 1) = p := profileOf_bytes digits t k hw
  have hclash : s.roster.slots.any (fun e =>
      profileClash (byteAt args 0).toNat (modulusOf (profileOf (args.drop 1)).digits) e.2) = true ↔ clash := by
    simp only [List.any_eq_true, profileClash_iff, hp]
    rfl
  have reads {st data u} : commandProfileRead [n] (carryFill (txCarrying [n]) s)
      = reply st data (carryFill (txCarrying [n]) u) → Answers .profileRead [n] s st data u :=
    answers_of_reply exec_profileRead hs rfl (by decide)
  have writes {st data u} : commandProfileWrite args (carryFill (txCarrying args) s)
      = reply st data (carryFill (txCarrying args) u) → Answers .profileWrite args s st data u :=
    answers_of_reply exec_profileWrite hs (by simp [args, hw]) (by decide)
  refine ⟨fun h => reads (if_neg (Nat.not_lt.2 h)), fun h => reads (if_pos h),
    fun hc => writes (commandProfileWrite_busy hc), fun hc h => writes (commandProfileWrite_badProfile hc h),
    fun hc h hx => writes (commandProfileWrite_badBaseline hc h (hclash.2 hx)), fun h hc hx => writes ?_⟩
  refine (commandProfileWrite_ok (s := carryFill (txCarrying args) s) (args := args) hc h (hx ∘ hclash.1)).trans ?_
  simp only [hp]
  rw [Profile.bytes_of_bytes _ _ t hw]
  rfl

end Sys2Proof.Machine

/-! PROOFS. The family of the route's life cycle: the reads of the Flag Chain, the Revisit List and the Reject List
(R35, R116, R143). -/

namespace Sys2Proof.Machine

/-! ## FLAG READ, REVISIT READ and REJECT READ (R35, R116, R143) -/

theorem exec_flagRead (tx : Tx) (s : State) : exec (.flagRead tx) s = command 0x40#8 2 commandFlagRead tx s := rfl

theorem exec_revisitRead (tx : Tx) (s : State) : exec (.revisitRead tx) s = command 0x55#8 2 commandRevisitRead tx s := rfl

theorem exec_rejectRead (tx : Tx) (s : State) : exec (.rejectRead tx) s = command 0x13#8 1 commandRejectRead tx s := rfl

/-- A field of one byte is that byte. -/
theorem beBytes_one (n : Nat) : beBytes 1 n = [BitVec.ofNat 8 n] := by
  simp [beBytes]

/-- An entry number of two bytes, alone in the arguments, reads back. -/
theorem fieldAt_entryNumber {k : Nat} (h : k < 65536) : fieldAt (beBytes 2 k) 0 2 = k := by
  simpa using fieldAt_slot h []

/-- An entry number of one byte, alone in the arguments, reads back. -/
theorem byteAt_entryNumber {k : Nat} (h : k < 256) : (byteAt (beBytes 1 k) 0).toNat = k := by
  simp [beBytes_one, byteAt, Nat.mod_eq_of_lt h]

section
variable {s : State} {k : Nat}

/-- FLAG READ of an entry of the chain shows the record it names (R116). -/
theorem commandFlagRead_entry {slot : Nat} {r : Record} (hk : k < 65536) (hslot : s.chain[k]? = some slot)
    (hr : s.recordAt slot = some r) :
    commandFlagRead (beBytes 2 k) s = reply .ok (beBytes 2 s.chain.length ++ beBytes 2 k ++ r.view slot) s := by
  simp only [commandFlagRead, fieldAt_entryNumber hk, hslot, hr]

/-- FLAG READ past the end of the chain answers END with its length (R116). -/
theorem commandFlagRead_end (hk : k < 65536) (hend : s.chain.length ≤ k) :
    commandFlagRead (beBytes 2 k) s = reply .endOfList (beBytes 2 s.chain.length) s := by
  simp only [commandFlagRead, fieldAt_entryNumber hk, List.getElem?_eq_none hend]

/-- REVISIT READ of an entry of the Revisit List shows the segment it names (R143). -/
theorem commandRevisitRead_entry {n : Nat} (hk : k < 65536) (hn : s.seg.revisit[k]? = some n) :
    commandRevisitRead (beBytes 2 k) s
      = reply .ok (beBytes 2 s.seg.revisit.length ++ beBytes 2 k ++ s.segView n) s := by
  simp only [commandRevisitRead, fieldAt_entryNumber hk, hn]

/-- REVISIT READ past the end of the Revisit List answers END with its length (R143). -/
theorem commandRevisitRead_end (hk : k < 65536) (hend : s.seg.revisit.length ≤ k) :
    commandRevisitRead (beBytes 2 k) s = reply .endOfList (beBytes 2 s.seg.revisit.length) s := by
  simp only [commandRevisitRead, fieldAt_entryNumber hk, List.getElem?_eq_none hend]

/-- REJECT READ of an entry of the Reject List shows it with the reject count (R35). -/
theorem commandRejectRead_entry {x : Reject} (hk : k < 256) (hx : s.route.rejectList[k]? = some x) :
    commandRejectRead (beBytes 1 k) s
      = reply .ok (beBytes 2 x.arrival ++ beBytes 4 x.meterId.toNat ++ [BitVec.ofNat 8 x.reason.code]
          ++ beBytes 2 s.route.rejects) s := by
  simp only [commandRejectRead, byteAt_entryNumber hk, hx, beBytes_one x.reason.code]

/-- REJECT READ past the end of the Reject List answers END with the reject count (R35). -/
theorem commandRejectRead_end (hk : k < 256) (hend : s.route.rejectList.length ≤ k) :
    commandRejectRead (beBytes 1 k) s = reply .endOfList (beBytes 2 s.route.rejects) s := by
  simp only [commandRejectRead, byteAt_entryNumber hk, List.getElem?_eq_none hend]

end

/-- Settles O29: each read's entry and its END, on the state that the fill of MISO leaves, whose lists are those of `s`. -/
theorem listReadsShowOneEntry : Obligations.ListReadsShowOneEntry := by
  intro s k hs hk
  have flags {st data t} : commandFlagRead (beBytes 2 k) (carryFill (txCarrying (beBytes 2 k)) s)
      = reply st data (carryFill (txCarrying (beBytes 2 k)) t) → Answers .flagRead (beBytes 2 k) s st data t :=
    answers_of_reply exec_flagRead hs (beBytes_length 2 k) (by decide)
  have revisits {st data t} : commandRevisitRead (beBytes 2 k) (carryFill (txCarrying (beBytes 2 k)) s)
      = reply st data (carryFill (txCarrying (beBytes 2 k)) t) → Answers .revisitRead (beBytes 2 k) s st data t :=
    answers_of_reply exec_revisitRead hs (beBytes_length 2 k) (by decide)
  have rejects {st data t} : commandRejectRead (beBytes 1 k) (carryFill (txCarrying (beBytes 1 k)) s)
      = reply st data (carryFill (txCarrying (beBytes 1 k)) t) → Answers .rejectRead (beBytes 1 k) s st data t :=
    answers_of_reply exec_rejectRead hs (beBytes_length 1 k) (by decide)
  exact ⟨fun _ _ hslot hr => flags (commandFlagRead_entry hk hslot hr), fun hend => flags (commandFlagRead_end hk hend),
    fun _ hn => revisits (commandRevisitRead_entry hk hn), fun hend => revisits (commandRevisitRead_end hk hend),
    fun _ hk' hx => rejects (commandRejectRead_entry hk' hx), fun hk' hend => rejects (commandRejectRead_end hk' hend)⟩

end Sys2Proof.Machine

/-! PROOFS. The family of the plausibility evaluation: stages 2 to 7 (R94 to R100). -/

namespace Sys2Proof.Machine

/-! ## Stage 2 and the allowance (R94, R96) -/

theorem one_le_elapsedHours (baselineAge tRead : Nat) : 1 ≤ elapsedHours baselineAge tRead := Nat.le_max_left ..

theorem elapsedHours_le {baselineAge tRead : Nat} (ha : baselineAge ≤ 4095) (ht : tRead ≤ 16777215) :
    elapsedHours baselineAge tRead ≤ 8755 := by
  have hroute : tRead / 3600 ≤ 4660 := Nat.div_le_div_right ht
  exact max_le (by decide) (Nat.add_le_add ha hroute)

theorem allowance_mono {h h' e e' : Nat} (hh : h ≤ h') (he : e ≤ e') : allowance h e ≤ allowance h' e' :=
  Nat.div_le_div_right (Nat.add_le_add_right (Nat.mul_le_mul hh he) 23)

/-- Rounded up, the allowance admits the advances whose 24-fold lies less than 24 above the product H E. -/
theorem le_allowance_iff {w h e : Nat} : w ≤ allowance h e ↔ 24 * w < h * e + 24 := by
  rw [allowance, Nat.le_div_iff_mul_le (by decide)]
  omega

/-! ## Stage 3: the advance (R95, R96) -/

section
variable {m baseline value allowed : Nat}

theorem advanceOf_forward (h : baseline ≤ value) :
    advanceOf m baseline value allowed = ⟨value - baseline, false, false⟩ :=
  if_pos h

theorem advanceOf_rollover (h : value < baseline) (hw : value + m - baseline ≤ allowed) :
    advanceOf m baseline value allowed = ⟨value + m - baseline, false, true⟩ :=
  (if_neg h.not_ge).trans (if_pos hw)

theorem advanceOf_reverse (h : value < baseline) (hw : allowed < value + m - baseline) :
    advanceOf m baseline value allowed = ⟨baseline - value, true, false⟩ :=
  (if_neg h.not_ge).trans (if_neg hw.not_ge)

/-- The three outcomes of stage 3. -/
theorem advanceOf_cases (m baseline value allowed : Nat) :
    (baseline ≤ value ∧ advanceOf m baseline value allowed = ⟨value - baseline, false, false⟩)
    ∨ (value < baseline ∧ advanceOf m baseline value allowed = ⟨value + m - baseline, false, true⟩)
    ∨ (value < baseline ∧ advanceOf m baseline value allowed = ⟨baseline - value, true, false⟩) := by
  rcases Nat.lt_or_ge value baseline with h | h
  · rcases Nat.lt_or_ge allowed (value + m - baseline) with hw | hw
    · exact .inr (.inr ⟨h, advanceOf_reverse h hw⟩)
    · exact .inr (.inl ⟨h, advanceOf_rollover h hw⟩)
  · exact .inl ⟨h, advanceOf_forward h⟩

theorem advanceOf_backward_eq_false_iff :
    (advanceOf m baseline value allowed).backward = false
      ↔ baseline ≤ value ∨ (advanceOf m baseline value allowed).rollover = true := by
  obtain ⟨h, e⟩ | ⟨h, e⟩ | ⟨h, e⟩ := advanceOf_cases m baseline value allowed <;> simp [e, h]

/-- In the register's range the advance stays below the modulus, in each of the three outcomes. -/
theorem advanceOf_delta_lt (hv : value < m) (hb : baseline < m) : (advanceOf m baseline value allowed).delta < m := by
  obtain ⟨h, e⟩ | ⟨h, e⟩ | ⟨h, e⟩ := advanceOf_cases m baseline value allowed <;> rw [e] <;> dsimp only <;> omega

end

/-! ## Stage 5: the class (R98) -/

section
variable {rate low high : Nat}

@[simp] theorem classOf_backward : classOf true rate low high = .reverse := rfl

theorem classOf_low (h : rate < low) : classOf false rate low high = .low := if_pos h

theorem classOf_high (hl : low ≤ rate) (h : high < rate) : classOf false rate low high = .high :=
  (if_neg hl.not_gt).trans (if_pos h)

theorem classOf_normal (hl : low ≤ rate) (h : rate ≤ high) : classOf false rate low high = .normal :=
  (if_neg hl.not_gt).trans (if_neg h.not_gt)

theorem classOf_eq_reverse_iff {backward : Bool} : classOf backward rate low high = .reverse ↔ backward = true := by
  cases backward with
  | true => simp
  | false =>
    rcases Nat.lt_or_ge rate low with hl | hl
    · simp [classOf_low hl]
    · rcases Nat.lt_or_ge high rate with hh | hh
      · simp [classOf_high hl hh]
      · simp [classOf_normal hl hh]

end

/-! ## Stage 6: the cause set (R99) -/

/-- A set of one place holds that place alone. -/
theorem getLsbD_twoPow_eq {w k : Nat} (hk : k < w) (n : Nat) : (BitVec.twoPow w k).getLsbD n = decide (k = n) := by
  simp [BitVec.getLsbD_twoPow, hk]

theorem and_twoPow_eq_zero_iff {w i : Nat} {l : BitVec w} (hi : i < w) :
    l &&& BitVec.twoPow w i = 0#w ↔ l.getLsbD i = false := by
  rw [BitVec.and_twoPow]
  cases l.getLsbD i with
  | false => simp
  | true =>
    have hne : BitVec.twoPow w i ≠ 0#w := fun h => by simpa [h] using getLsbD_twoPow_eq hi i
    simp [hne]

/-- The latched indication at place `i` alone decides its cause, whose place is `k`. -/
theorem latchedCause_getLsbD {l latch : BitVec 7} {cause : BitVec 10} (i k : Nat) (hl : latch = BitVec.twoPow 7 i)
    (hc : cause = BitVec.twoPow 10 k) (hi : i < 7) (hk : k < 10) (n : Nat) :
    (if l &&& latch = 0#7 then 0#10 else cause).getLsbD n = (l.getLsbD i && decide (k = n)) := by
  subst hl hc
  simp only [and_twoPow_eq_zero_iff hi]
  cases l.getLsbD i with
  | false => simp
  | true => simp [getLsbD_twoPow_eq hk]

/-- The causes of a latched set, place by place; LOW_BATTERY, place 3 of the set, gives none. -/
theorem latchedCauses_getLsbD (l : BitVec 7) (n : Nat) :
    (latchedCauses l).getLsbD n
      = (l.getLsbD 0 && decide (4 = n) || l.getLsbD 1 && decide (5 = n) || l.getLsbD 2 && decide (6 = n)
        || l.getLsbD 4 && decide (7 = n) || l.getLsbD 5 && decide (8 = n) || l.getLsbD 6 && decide (9 = n)) := by
  have magnet := latchedCause_getLsbD (l := l) (latch := latchMagnet) (cause := causeMagnet) 0 4 rfl rfl
  have cover := latchedCause_getLsbD (l := l) (latch := latchCover) (cause := causeCover) 1 5 rfl rfl
  have backflow := latchedCause_getLsbD (l := l) (latch := latchBackflow) (cause := causeBackflow) 2 6 rfl rfl
  have restart := latchedCause_getLsbD (l := l) (latch := latchRestart) (cause := causeRestart) 4 7 rfl rfl
  have ident := latchedCause_getLsbD (l := l) (latch := latchIdent) (cause := causeIdent) 5 8 rfl rfl
  have conflict := latchedCause_getLsbD (l := l) (latch := latchConflict) (cause := causeConflict) 6 9 rfl rfl
  simp [latchedCauses, magnet, cover, backflow, restart, ident, conflict]

/-- The cause of a class, place by place; NORMAL has none. -/
theorem Class.cause_getLsbD (c : Class) (n : Nat) :
    c.cause.getLsbD n
      = (decide (c = .low) && decide (0 = n) || decide (c = .high) && decide (1 = n)
        || decide (c = .reverse) && decide (2 = n)) := by
  have low : causeLow.getLsbD n = decide (0 = n) := getLsbD_twoPow_eq (by decide : 0 < 10) n
  have high : causeHigh.getLsbD n = decide (1 = n) := getLsbD_twoPow_eq (by decide : 1 < 10) n
  have reverse : causeReverse.getLsbD n = decide (2 = n) := getLsbD_twoPow_eq (by decide : 2 < 10) n
  cases c <;> simp [Class.cause, low, high, reverse]

theorem rolloverCause_getLsbD (rollover : Bool) (n : Nat) :
    (if rollover then causeRollover else 0#10).getLsbD n = (rollover && decide (3 = n)) := by
  cases rollover with
  | false => simp
  | true => exact getLsbD_twoPow_eq (by decide : 3 < 10) n

section
variable {c : Class} {rollover : Bool} {l : BitVec 7} {n : Nat}

theorem causeSet_getLsbD :
    (causeSet c rollover l).getLsbD n
      = (c.cause.getLsbD n || rollover && decide (3 = n) || (latchedCauses l).getLsbD n) := by
  rw [causeSet, BitVec.getLsbD_or, BitVec.getLsbD_or, rolloverCause_getLsbD]

/-- Places 0 to 2 of a cause set are the class's. -/
theorem causeSet_getLsbD_of_class (h : n < 3) : (causeSet c rollover l).getLsbD n = c.cause.getLsbD n := by
  have hne (k : Nat) (hk : 3 ≤ k) : k ≠ n := (h.trans_le hk).ne'
  simp [causeSet_getLsbD, latchedCauses_getLsbD, hne]

/-- Place 3 of a cause set is the rollover's. -/
theorem causeSet_getLsbD_three : (causeSet c rollover l).getLsbD 3 = rollover := by
  rw [causeSet_getLsbD, Class.cause_getLsbD, latchedCauses_getLsbD]
  simp

/-- Places 4 to 9 of a cause set are the latched set's. -/
theorem causeSet_getLsbD_of_latched (h : 4 ≤ n) :
    (causeSet c rollover l).getLsbD n = (latchedCauses l).getLsbD n := by
  have hne (k : Nat) (hk : k < 4) : k ≠ n := (hk.trans_le h).ne
  simp [causeSet_getLsbD, Class.cause_getLsbD, hne]

end

/-! ## Stage 7: the score (R100) -/

theorem scoreOf_le (causes : BitVec 10) (weights : List Nat) : scoreOf causes weights ≤ 255 := Nat.min_le_left ..

/-- The weight that each cause of a set adds to the score, in the order of the causes' bits. -/
def weightsOf (causes : BitVec 10) (weights : List Nat) : List Nat :=
  (List.range 10).map fun i => if causes.getLsbD i then weights.getD i 0 else 0

/-- The running sum of stage 7 is the sum of the weights of the causes present. -/
theorem scoreOf_eq (causes : BitVec 10) (weights : List Nat) :
    scoreOf causes weights = min 255 (weightsOf causes weights).sum := by
  have step : (fun (sum : Nat) i => if causes.getLsbD i then sum + weights.getD i 0 else sum)
      = fun sum i => sum + if causes.getLsbD i then weights.getD i 0 else 0 := by
    funext sum i
    split <;> rfl
  rw [scoreOf, step, weightsOf, List.sum_eq_foldl, List.foldl_map]

theorem weightsOf_ten (c : BitVec 10) (w0 w1 w2 w3 w4 w5 w6 w7 w8 w9 : Nat) :
    weightsOf c [w0, w1, w2, w3, w4, w5, w6, w7, w8, w9]
      = [if c.getLsbD 0 then w0 else 0, if c.getLsbD 1 then w1 else 0, if c.getLsbD 2 then w2 else 0,
         if c.getLsbD 3 then w3 else 0, if c.getLsbD 4 then w4 else 0, if c.getLsbD 5 then w5 else 0,
         if c.getLsbD 6 then w6 else 0, if c.getLsbD 7 then w7 else 0, if c.getLsbD 8 then w8 else 0,
         if c.getLsbD 9 then w9 else 0] := rfl

/-! ## The result of a snapshot (R92) -/

namespace Snapshot

/-- Stages 1 to 3 on a snapshot: its advance. -/
def advance (p : Snapshot) : Advance :=
  advanceOf (modulusOf p.digits) p.baseline p.value (allowance p.bandHigh (elapsedHours p.baselineAge p.tRead))

variable (p : Snapshot)

@[simp] theorem result_delta : p.result.delta = p.advance.delta := rfl
@[simp] theorem result_rollover : p.result.rollover = p.advance.rollover := rfl
theorem result_rate :
    p.result.rate = min 65535 (p.result.delta * 24 / elapsedHours p.baselineAge p.tRead) := rfl
theorem result_cls : p.result.cls = classOf p.advance.backward p.result.rate p.bandLow p.bandHigh := rfl
theorem result_causes : p.result.causes = causeSet p.result.cls p.result.rollover p.latched := rfl
theorem result_score : p.result.score = scoreOf p.result.causes p.weights := rfl

end Snapshot

/-- Settles O27: stage 3's three outcomes with the allowance as a bound on 24 times the wrapped advance, and the class by the
direction; the ranges are those of each stage. -/
theorem evaluationFollowsTheStages : Obligations.EvaluationFollowsTheStages := by
  refine ⟨fun p _ => ⟨fun h => ?forward, fun h hw => ?rollover, fun h hw => ?reverse, p.result_rate, fun h => ?band⟩,
    fun p hd hv hb ha ht hh => ⟨one_le_elapsedHours .., elapsedHours_le ha ht,
      allowance_mono hh (elapsedHours_le ha ht), ?delta, Nat.min_le_left .., scoreOf_le ..⟩⟩
  case forward =>
    have e : p.advance = _ := advanceOf_forward h
    simp [e]
  case rollover =>
    have e : p.advance = _ := advanceOf_rollover h (le_allowance_iff.2 hw)
    exact ⟨by rw [p.result_delta, e]; rfl, by rw [p.result_rollover, e],
      by rw [p.result_cls, Ne, classOf_eq_reverse_iff, e]; exact Bool.false_ne_true⟩
  case reverse =>
    have e : p.advance = _ := advanceOf_reverse h (Nat.lt_of_not_le (mt le_allowance_iff.1 hw.not_gt))
    exact ⟨by rw [p.result_delta, e], by rw [p.result_rollover, e], by rw [p.result_cls, classOf_eq_reverse_iff, e]⟩
  case band =>
    have hb : p.advance.backward = false := advanceOf_backward_eq_false_iff.2 h
    rw [p.result_cls, hb]
    exact ⟨classOf_low, classOf_high, classOf_normal⟩
  case delta =>
    have hm : 10 ^ p.digits ≤ 10 ^ 9 := Nat.pow_le_pow_right (by decide) hd
    have hlt : p.advance.delta < 10 ^ p.digits := advanceOf_delta_lt hv hb
    rw [p.result_delta]
    omega

/-- Settles O28: the class's, the rollover's and the latched set's places of the cause set, and the score as the sum of the ten
weights. -/
theorem causesAndScore : Obligations.CausesAndScore := by
  intro p w0 w1 w2 w3 w4 w5 w6 w7 w8 w9 hw c
  have hc : c = causeSet p.result.cls p.result.rollover p.latched := p.result_causes
  have ofClass {n : Nat} (h : n < 3) : c.getLsbD n = p.result.cls.cause.getLsbD n := by
    rw [hc, causeSet_getLsbD_of_class h]
  have ofLatched {n : Nat} (h : 4 ≤ n) : c.getLsbD n = (latchedCauses p.latched).getLsbD n := by
    rw [hc, causeSet_getLsbD_of_latched h]
  refine ⟨?low, ?high, ?reverse, ?rollover, ?magnet, ?cover, ?backflow, ?restart, ?ident, ?conflict, ?score⟩
  case low | high | reverse =>
    rw [ofClass (by decide), Class.cause_getLsbD]
    simp
  case rollover => rw [hc, causeSet_getLsbD_three]
  case score =>
    rw [p.result_score, scoreOf_eq, hw, weightsOf_ten]
    simp only [List.sum_cons, List.sum_nil, Nat.add_zero, Nat.add_assoc]
    rfl
  case magnet | cover | backflow | restart | ident | conflict =>
    rw [ofLatched (by decide), latchedCauses_getLsbD]
    simp

end Sys2Proof.Machine

/-! PROOFS. The family of the tamper flags: REVIEW and REVIEW HEAD (R112 to R114, R118). -/

namespace Sys2Proof.Machine

/-! ## REVIEW and REVIEW HEAD (R113, R114) -/

theorem exec_review (tx : Tx) (s : State) : exec (.review tx) s = command 0x41#8 6 commandReview tx s := rfl

theorem exec_reviewHead (tx : Tx) (s : State) : exec (.reviewHead tx) s = command 0x42#8 0 commandReviewHead tx s := rfl

/-- A reviewed record takes its result's causes as reviewed causes, and a CARRIED one is superseded (R112, R113). -/
theorem reviewed_eq (r : Record) :
    r.reviewed = { r with
      state := .reviewed
      reviewedCauses := r.result.map (fun x => x.causes)
      upload := if r.upload.isCarried = true then .carried r.upload.blockCode true else r.upload } :=
  supersede_eq _

/-- The state after the review of the record `r` in `slot`: the record REVIEWED, its segment's flagged count one lower, and the
slot off the chain (R113, R118). -/
def afterReview (slot : Nat) (r : Record) (s : State) : State :=
  { setSeg r.segment { s.segAt r.segment with flagged := (s.segAt r.segment).flagged - 1 } (setRecord slot r.reviewed s) with
    chain := s.chain.filter (· != slot) }

/-- A review answers OK with the view after it, and the fill of MISO passes through to the state it leaves. -/
theorem reviewSlot_carryFill (slot : Nat) (r : Record) (tx : Tx) (s : State) :
    reviewSlot slot r (carryFill tx s) = reply .ok (r.reviewed.view slot) (carryFill tx (afterReview slot r s)) := rfl

section
variable {s : State} {slot : Nat} {id : Word} {r : Record}

/-- REVIEW of no record is refused (R18, R113). -/
theorem commandReview_notFound (hslot : slot < 65536) (hn : s.named slot id = none) :
    commandReview (beBytes 2 slot ++ beBytes 4 id.toNat) s = reply .notFound [] s := by
  simp only [commandReview, fieldAt_slot hslot, fieldAt_meterId, hn]

/-- REVIEW of a record that is not FLAGGED is refused (R113). -/
theorem commandReview_notFlagged (hslot : slot < 65536) (hn : s.named slot id = some r) (hf : r.state ≠ .flagged) :
    commandReview (beBytes 2 slot ++ beBytes 4 id.toNat) s = reply .notFlagged [] s := by
  simp only [commandReview, fieldAt_slot hslot, fieldAt_meterId, hn, if_neg hf]

/-- REVIEW of a FLAGGED record reviews it (R113). -/
theorem commandReview_flagged (hslot : slot < 65536) (hn : s.named slot id = some r) (hf : r.state = .flagged) :
    commandReview (beBytes 2 slot ++ beBytes 4 id.toNat) s = reviewSlot slot r s := by
  simp only [commandReview, fieldAt_slot hslot, fieldAt_meterId, hn, if_pos hf]

/-- REVIEW HEAD of an empty chain answers END (R114). -/
theorem commandReviewHead_end (args : List Byte) (hc : s.chain = []) :
    commandReviewHead args s = reply .endOfList [] s := by
  simp only [commandReviewHead, hc]

/-- REVIEW HEAD reviews the record in the head slot (R114). -/
theorem commandReviewHead_head {rest : List Nat} (args : List Byte) (hc : s.chain = slot :: rest)
    (hr : s.recordAt slot = some r) : commandReviewHead args s = reviewSlot slot r s := by
  simp only [commandReviewHead, hc, hr]

end

/-- Settles O30: the branches of the two owners in turn, whose one effect is the review of a slot. -/
theorem reviewTakesTheFlag : Obligations.ReviewTakesTheFlag := by
  intro s slot id hs hslot args
  have reviews {st data t} : commandReview args (carryFill (txCarrying args) s)
      = reply st data (carryFill (txCarrying args) t) → Answers .review args s st data t :=
    answers_of_reply exec_review hs (by simp [args]) (by decide)
  have reviewsHead {st data t} : commandReviewHead [] (carryFill (txCarrying []) s)
      = reply st data (carryFill (txCarrying []) t) → Answers .reviewHead [] s st data t :=
    answers_of_reply exec_reviewHead hs rfl (by decide)
  refine ⟨fun hm => reviews (commandReview_notFound hslot (named_eq_none_iff.2 hm)),
    fun hc => reviewsHead (commandReviewHead_end [] hc), fun r hr => ?_⟩
  have named (hlt : slot < 8192) (hid : r.meterId = id) : s.named slot id = some r := named_iff.2 ⟨hlt, hr, hid⟩
  rw [← reviewed_eq]
  refine ⟨fun hlt hid hf => reviews (commandReview_notFlagged hslot (named hlt hid) hf),
    fun hlt hid hf => reviews ?review, fun rest hc => reviewsHead ?head⟩
  case review =>
    exact (commandReview_flagged (s := carryFill (txCarrying args) s) hslot (named hlt hid) hf).trans
      (reviewSlot_carryFill slot r _ s)
  case head =>
    exact (commandReviewHead_head (s := carryFill (txCarrying []) s) [] hc hr).trans (reviewSlot_carryFill slot r _ s)

end Sys2Proof.Machine

/-! PROOFS. The family of the segments and windows: the covered set, WINDOW STAGE, WINDOW DEPTH and WINDOW READ, SEGMENT READ and
WAIVE (R132 to R135, R144, R145). -/

namespace Sys2Proof.Machine

/-! ## The covered set (R132) -/

/-- A segment is covered when it is one of the table's and lies in window A or window B, of which the second is empty where the
split is at or above the depth (R132). -/
theorem covers_iff {w : Windows} {n : Nat} :
    w.covers n = true ↔ n ≤ 1023 ∧ ((w.startA ≤ n ∧ n < w.startA + min w.split w.depth)
      ∨ (w.split < w.depth ∧ w.startB ≤ n ∧ n < w.startB + (w.depth - w.split))) := by
  simp only [Windows.covers, Bool.and_eq_true, Bool.or_eq_true, decide_eq_true_eq]
  rw [Config.segmentCount]
  omega

/-- The segment numbers of window A followed by those of window B, not cut at the end of the table. -/
def Windows.span (w : Windows) : List Nat :=
  List.range' w.startA (min w.split w.depth) ++ List.range' w.startB (w.depth - w.split)

theorem mem_span_of_covers {w : Windows} {n : Nat} (h : w.covers n = true) : n ∈ w.span := by
  obtain ⟨-, hA | ⟨-, hB⟩⟩ := covers_iff.1 h
  · exact List.mem_append_left _ (List.mem_range'_1.2 hA)
  · exact List.mem_append_right _ (List.mem_range'_1.2 hB)

/-- The two windows hold as many numbers as the windows are deep. -/
theorem length_span (w : Windows) : w.span.length = w.depth := by
  simp only [Windows.span, List.length_append, List.length_range']
  omega

/-- The covered set holds no more segments than the windows are deep: each is counted once, and all lie in the two windows (R132). -/
theorem coveredCount_le_depth (w : Windows) : w.coveredCount ≤ w.depth := by
  have hnodup : ((List.range Config.segmentCount).filter w.covers).Nodup := List.nodup_range.filter _
  have hsub : (List.range Config.segmentCount).filter w.covers ⊆ w.span := fun _ hn =>
    mem_span_of_covers (List.mem_filter.1 hn).2
  calc w.coveredCount ≤ w.span.length := (List.subperm_of_subset hnodup hsub).length_le
    _ = w.depth := length_span w

theorem coveredCount_eq_countP (w : Windows) : w.coveredCount = (List.range 1024).countP (fun n => w.covers n) :=
  List.countP_eq_length_filter.symm

/-! ## WINDOW STAGE, WINDOW DEPTH and WINDOW READ (R133 to R135) -/

theorem exec_windowStage (tx : Tx) (s : State) : exec (.windowStage tx) s = command 0x51#8 3 commandWindowStage tx s := rfl

theorem exec_windowDepth (tx : Tx) (s : State) : exec (.windowDepth tx) s = command 0x52#8 2 commandWindowDepth tx s := rfl

theorem exec_windowRead (tx : Tx) (s : State) : exec (.windowRead tx) s = command 0x53#8 1 commandWindowRead tx s := rfl

theorem stages_iff {r : RouteState} : r.stages = true ↔ r = .ready ∨ r = .active := by
  cases r <;> decide

/-- The windows with the starts that the selector names written and clamped (R133). -/
def Windows.stage (w : Windows) (sel : Byte) (start : Nat) : Windows :=
  { w with
    startA := if sel = 1#8 then w.startA else min 1023 start
    startB := if sel = 0#8 then w.startB else min 1023 start }

/-- The windows with depth and split written and clamped (R134). -/
def Windows.deepen (w : Windows) (depth split : Byte) : Windows :=
  { w with depth := min 64 depth.toNat, split := min 64 split.toNat }

/-- A start value of two bytes behind the selector reads back. -/
theorem fieldAt_start (sel : Byte) {start : Nat} (h : start < 65536) : fieldAt (sel :: beBytes 2 start) 1 2 = start :=
  fieldAt_entryNumber h

section
variable {s : State} {sel depth split : Byte} {start : Nat}

/-- WINDOW STAGE in READY or ACTIVE writes the staged starts and answers the staged values (R133). -/
theorem commandWindowStage_ok (hstart : start < 65536) (hr : s.route.state = .ready ∨ s.route.state = .active) :
    commandWindowStage (sel :: beBytes 2 start) s
      = reply .ok (s.seg.staged.stage sel start).bytes { s with seg.staged := s.seg.staged.stage sel start } := by
  have hone : sel.toNat = 1 ↔ sel = 1#8 := BitVec.toNat_inj (y := 1#8)
  have hzero : sel.toNat = 0 ↔ sel = 0#8 := BitVec.toNat_inj (y := 0#8)
  have hsel : byteAt (sel :: beBytes 2 start) 0 = sel := rfl
  simp only [commandWindowStage, if_pos (stages_iff.2 hr), fieldAt_start sel hstart, hsel, hone, hzero, Windows.stage]

/-- WINDOW STAGE in any other route state is refused (R133). -/
theorem commandWindowStage_wrongRouteState (args : List Byte) (hr : ¬ (s.route.state = .ready ∨ s.route.state = .active)) :
    commandWindowStage args s = reply .wrongRouteState [] s :=
  if_neg (hr ∘ stages_iff.1)

/-- WINDOW DEPTH in READY or ACTIVE writes staged depth and split and answers the staged values (R134). -/
theorem commandWindowDepth_ok (hr : s.route.state = .ready ∨ s.route.state = .active) :
    commandWindowDepth [depth, split] s
      = reply .ok (s.seg.staged.deepen depth split).bytes { s with seg.staged := s.seg.staged.deepen depth split } :=
  if_pos (stages_iff.2 hr)

/-- WINDOW DEPTH in any other route state is refused (R134). -/
theorem commandWindowDepth_wrongRouteState (args : List Byte) (hr : ¬ (s.route.state = .ready ∨ s.route.state = .active)) :
    commandWindowDepth args s = reply .wrongRouteState [] s :=
  if_neg (hr ∘ stages_iff.1)

/-- WINDOW READ answers the selected staged start with the staged depth and split, the applied values and the size of the covered
set (R135). -/
theorem commandWindowRead_eq (sel : Byte) (s : State) :
    commandWindowRead [sel] s = reply .ok
      (beBytes 2 (if sel = 0#8 then s.seg.staged.startA else s.seg.staged.startB) ++ beBytes 1 s.seg.staged.depth
        ++ beBytes 1 s.seg.staged.split ++ s.seg.applied.bytes ++ beBytes 1 s.seg.applied.coveredCount) s := rfl

end

/-- Settles O31: the covered set by the list of the two windows' numbers, then the branches of the three owners. -/
theorem windowsAreStagedAndRead : Obligations.WindowsAreStagedAndRead := by
  refine ⟨fun w hw => ⟨fun n => covers_iff, coveredCount_eq_countP w, (coveredCount_le_depth w).trans hw⟩, ?_⟩
  intro s sel w sp start hs hstart old staged deep four
  have stages {st data t} : commandWindowStage (sel :: beBytes 2 start) (carryFill (txCarrying (sel :: beBytes 2 start)) s)
      = reply st data (carryFill (txCarrying (sel :: beBytes 2 start)) t) →
        Answers .windowStage (sel :: beBytes 2 start) s st data t :=
    answers_of_reply exec_windowStage hs rfl (by decide)
  have deepens {st data t} : commandWindowDepth [w, sp] (carryFill (txCarrying [w, sp]) s)
      = reply st data (carryFill (txCarrying [w, sp]) t) → Answers .windowDepth [w, sp] s st data t :=
    answers_of_reply exec_windowDepth hs rfl (by decide)
  refine ⟨fun hr => ⟨stages (commandWindowStage_ok hstart hr), deepens (commandWindowDepth_ok hr)⟩,
    fun hready hactive => ?refused,
    answers_of_reply exec_windowRead hs rfl (by decide) (commandWindowRead_eq sel (carryFill (txCarrying [sel]) s))⟩
  case refused =>
    have hr : ¬ (s.route.state = .ready ∨ s.route.state = .active) := not_or.2 ⟨hready, hactive⟩
    exact ⟨stages (commandWindowStage_wrongRouteState _ hr), deepens (commandWindowDepth_wrongRouteState _ hr)⟩

/-! ## SEGMENT READ and WAIVE (R144, R145) -/

theorem exec_segmentRead (tx : Tx) (s : State) : exec (.segmentRead tx) s = command 0x50#8 2 commandSegmentRead tx s := rfl

theorem exec_waive (tx : Tx) (s : State) : exec (.waive tx) s = command 0x56#8 2 commandWaive tx s := rfl

/-- The 14 bytes of a segment's entry, field by field (Table 12-6). -/
theorem SegEntry.view_eq (e : SegEntry) (n : Nat) (covered : Bool) :
    e.view n covered = beBytes 2 n ++ [BitVec.ofNat 8 e.state.code] ++ beBytes 2 e.members ++ beBytes 2 e.read
      ++ beBytes 2 e.flagged
      ++ [BitVec.ofNat 8 ((if e.visited then 1 else 0) + (if covered then 2 else 0) + (if e.deadline.isSome then 4 else 0))]
      ++ beBytes 4 (e.deadline.getD 0) := by
  rw [SegEntry.view, beBytes_one]
  rfl

/-- The state after the waiver of segment `n`: its entry WAIVED, and the segment off the Revisit List (R144). -/
def afterWaive (n : Nat) (s : State) : State :=
  { setSeg n { s.segAt n with state := .waived } s with seg.revisit := s.seg.revisit.filter (fun m => m != n) }

/-- The view of a waived segment shows its entry WAIVED, covered or not as before. -/
theorem segView_afterWaive (n : Nat) (s : State) :
    (afterWaive n s).segView n = SegEntry.view { s.segAt n with state := .waived } n (s.seg.applied.covers n) := by
  have he : (afterWaive n s).segAt n = { s.segAt n with state := .waived } :=
    (segAt_setSeg n n { s.segAt n with state := .waived } s).trans (if_pos rfl)
  rw [State.segView, he]
  rfl

section
variable {s : State} {n : Nat}

/-- SEGMENT READ of a segment of the table shows its entry (R145). -/
theorem commandSegmentRead_ok (hn : n ≤ 1023) : commandSegmentRead (beBytes 2 n) s = reply .ok (s.segView n) s := by
  have hlt : n < Config.segmentCount := Nat.lt_succ_of_le hn
  simp only [commandSegmentRead, fieldAt_entryNumber (show n < 65536 by omega), if_pos hlt]

/-- SEGMENT READ beyond the table is refused (R145). -/
theorem commandSegmentRead_notFound (hn : n < 65536) (h : 1023 < n) :
    commandSegmentRead (beBytes 2 n) s = reply .notFound [] s := by
  have hlt : ¬ n < Config.segmentCount := Nat.not_lt.2 h
  simp only [commandSegmentRead, fieldAt_entryNumber hn, if_neg hlt]

/-- WAIVE beyond the table is refused (R144). -/
theorem commandWaive_notFound (hn : n < 65536) (h : 1023 < n) : commandWaive (beBytes 2 n) s = reply .notFound [] s := by
  have hlt : ¬ n < Config.segmentCount := Nat.not_lt.2 h
  simp only [commandWaive, fieldAt_entryNumber hn, if_neg hlt]

/-- WAIVE of a segment that is not MISSED is refused (R144). -/
theorem commandWaive_notMissed (hn : n ≤ 1023) (hm : (s.segAt n).state ≠ .missed) :
    commandWaive (beBytes 2 n) s = reply .notMissed [] s := by
  have hlt : n < Config.segmentCount := Nat.lt_succ_of_le hn
  simp only [commandWaive, fieldAt_entryNumber (show n < 65536 by omega), if_pos hlt, if_neg hm]

/-- WAIVE of a MISSED segment gives it up and shows its entry (R144). -/
theorem commandWaive_ok (hn : n ≤ 1023) (hm : (s.segAt n).state = .missed) :
    commandWaive (beBytes 2 n) s = reply .ok ((afterWaive n s).segView n) (afterWaive n s) := by
  have hlt : n < Config.segmentCount := Nat.lt_succ_of_le hn
  have hw : waiveSeg n s = afterWaive n s := rfl
  simp only [commandWaive, fieldAt_entryNumber (show n < 65536 by omega), if_pos hlt, if_pos hm, hw]

end

/-- Settles O33: the branches of the two owners in turn, and the view after a waiver. -/
theorem segmentReadAndWaive : Obligations.SegmentReadAndWaive := by
  intro s n hs hn bytes
  have hbytes (e : SegEntry) : bytes e = e.view n (s.seg.applied.covers n) := (e.view_eq n _).symm
  have reads {st data t} : commandSegmentRead (beBytes 2 n) (carryFill (txCarrying (beBytes 2 n)) s)
      = reply st data (carryFill (txCarrying (beBytes 2 n)) t) → Answers .segmentRead (beBytes 2 n) s st data t :=
    answers_of_reply exec_segmentRead hs (beBytes_length 2 n) (by decide)
  have waives {st data t} : commandWaive (beBytes 2 n) (carryFill (txCarrying (beBytes 2 n)) s)
      = reply st data (carryFill (txCarrying (beBytes 2 n)) t) → Answers .waive (beBytes 2 n) s st data t :=
    answers_of_reply exec_waive hs (beBytes_length 2 n) (by decide)
  simp only [hbytes]
  refine ⟨fun h => ⟨reads (commandSegmentRead_notFound hn h), waives (commandWaive_notFound hn h)⟩,
    fun hle => reads (commandSegmentRead_ok hle), fun hle hm => waives (commandWaive_notMissed hle hm),
    fun hle hm => ?waived⟩
  case waived =>
    rw [← segView_afterWaive]
    exact waives (commandWaive_ok hle hm)

end Sys2Proof.Machine

/-! PROOFS. The machine as a whole: a step, the state after power-on, the start and the loss of the supply (R28, R204, R205). -/

namespace Sys2Proof.Machine

/-- Settles O1: both parts are the two branches of `step`. -/
theorem stepRunsTheFrontCommand : Obligations.StepRunsTheFrontCommand :=
  ⟨fun _ _ _ => rfl, fun s h => by rw [step, h]⟩

/-- Settles O2: each block of `State.reset` is its default, channel by channel for the four channels. -/
theorem resetHoldsPowerOnValues : Obligations.ResetHoldsPowerOnValues := by
  have hch : ∀ ch : Fin 4, State.reset.channels.get ch = {} := by decide
  unfold Obligations.ResetHoldsPowerOnValues
  refine ⟨rfl, rfl, rfl, rfl, rfl, rfl, rfl, rfl, rfl, rfl, rfl, rfl, hch, rfl, rfl, rfl, rfl, fun _ => rfl, ?_⟩
  and_intros <;> rfl

/-! ## Power-on contents (R204, R205) -/

/-- The settings in force before the autoload ends are in range (Table 11-1). -/
theorem defaultSettings_inRange : ({} : Settings).inRange := by
  unfold Settings.inRange Profile.inRange
  decide

/-- The image a part keeps without supply has 256 bytes, unless a commit in progress leaves it part-written (R204). -/
def Image.sized : Image → Prop
  | .whole bs => bs.length = 256
  | .partWritten => True

theorem State.Laws.imageUnpowered_sized {s : State} (hs : s.settingsLaw) : s.store.imageUnpowered.sized := by
  obtain ⟨-, -, himage⟩ := hs
  unfold Store.imageUnpowered
  cases s.store.commit with
  | none => cases hi : s.store.image <;> simp only [hi] at himage <;> exact himage
  | some c => trivial

/-- Every law holds of the power-on contents, whatever image the part keeps. -/
theorem powerOnContents_laws {p : Power} {s : State} (hp : p ≠ .running) (hi : s.store.imageUnpowered.sized) :
    (powerOnContents p s).Laws where
  tables := ⟨rfl, List.forall_mem_nil _, rfl, List.forall_mem_nil _, rfl, List.forall_mem_nil _⟩
  index := ⟨List.forall_mem_nil _, List.forall_mem_nil _, List.forall_mem_nil _⟩
  record := List.forall_mem_nil _
  queue := ⟨List.nodup_nil, List.forall_mem_nil _, List.forall_mem_nil _⟩
  running := ⟨List.forall_mem_nil _, fun _ h => (by cases h)⟩
  fresh := List.forall_mem_nil _
  chain := ⟨List.nodup_nil, List.forall_mem_nil _, List.forall_mem_nil _⟩
  route := ⟨fun _ => rfl, Iff.intro (fun _ => rfl) (fun _ => rfl), fun h => absurd rfl h, Nat.zero_le _, Nat.zero_le _,
    Nat.zero_le _, rfl, Nat.zero_le _, fun _ _ => rfl⟩
  empty := fun _ => ⟨rfl, rfl, rfl, rfl, rfl⟩
  segCount := fun _ _ => ⟨rfl, rfl, rfl⟩
  segState := fun n _ => by
    have hc : (powerOnContents p s).seg.applied.covers n = false := covers_zero n
    rw [hc]
    exact ⟨fun _ => rfl, fun h => (by cases h), Iff.intro (fun h => (by cases h)) (fun h => (by cases h)), fun h => (by cases h)⟩
  revisit := ⟨List.nodup_nil, List.forall_mem_nil _, fun _ _ h => (by cases h)⟩
  window := by
    have hz : ({} : Windows).inRange := ⟨Nat.zero_le _, Nat.zero_le _, Nat.zero_le _, Nat.zero_le _⟩
    exact ⟨hz, hz, fun _ => rfl, fun _ _ => rfl, fun _ _ => List.forall_mem_nil _⟩
  tx := ⟨List.forall_mem_nil _, Nat.zero_le _, Nat.zero_le _, Nat.zero_le _, Nat.zero_le _, Nat.zero_le _, Nat.zero_le _,
    Nat.zero_le _⟩
  link := by
    refine ⟨Iff.intro (fun _ h => ?_) (fun _ => rfl), fun _ => ⟨rfl, rfl, rfl, rfl, rfl, rfl⟩, Nat.zero_le _, Nat.zero_le _,
      fun _ => ⟨rfl, Nat.zero_le _⟩, fun _ => rfl, Nat.zero_le _, Nat.zero_le _, trivial⟩
    exact hp ((listens_iff _).2 h.1).1
  upload := ⟨Nat.zero_le _, List.nodup_nil, List.forall_mem_nil _, List.forall_mem_nil _, fun _ => rfl, fun h => absurd rfl h,
    fun h => absurd rfl h, by rintro n ⟨⟩; decide, Nat.zero_le _, Nat.zero_le _, Nat.zero_le _, Nat.zero_le _, Nat.zero_le _,
    Nat.zero_le _⟩
  channel := by
    have hc : ∀ ch : Fin 4, ((Quad.all {} : Quad Channel).get ch).inRange
        ∧ (({} : Settings).enables.get ch = false → ((Quad.all {} : Quad Channel).get ch).rx = .gapWait) := by
      unfold Channel.inRange Stats.inRange
      decide
    exact hc
  settings := by
    refine ⟨defaultSettings_inRange, fun c h => (by cases h), ?_⟩
    show match s.store.imageUnpowered with
      | .whole bs => bs.length = 256
      | .partWritten => True
    cases h : s.store.imageUnpowered <;> rw [h] at hi <;> exact hi
  port := ⟨fun _ h => (by cases h), fun _ h => (by cases h), Nat.zero_le _⟩
  power := fun _ => rfl
  hold := fun _ => ⟨rfl, rfl, rfl, rfl⟩

/-- Settles O3: the state after power-on is the power-on contents with a blank image. -/
theorem lawsHoldAtReset : Obligations.LawsHoldAtReset :=
  powerOnContents_laws (p := .autoload) (s := State.reset) (by decide) (List.length_replicate (n := 256) (a := 0xFF#8))

/-! ## POWER_ON, SUPPLY_FAILURE and AUTOLOAD_END (R204, R205) -/

theorem autoloadStore_passes {t : Store} {bs : List Byte} (hb : t.image = .whole bs) (hp : t.image.passes = true) :
    autoloadStore t = { t with live := settingsOf bs, defaulted := false } := by
  rw [hb] at hp
  simp only [autoloadStore, hb, if_pos hp]

theorem autoloadStore_fails {t : Store} (hp : t.image.passes = false) :
    autoloadStore t = { t with live := {}, defaulted := true } := by
  unfold autoloadStore
  split
  · rw [if_neg (by simp [hp])]
  · rfl

/-- AUTOLOAD_END in the autoload: the settings, the start, and the link ACQUIRING if a dock is mated and RESET_N is high
(R205, R166). -/
theorem execAutoloadEnd_autoload {s : State} (h : s.power = .autoload) :
    execAutoloadEnd s = .next { s with
      power := .running
      store := autoloadStore s.store
      link := if s.dockPresent = true ∧ s.resetLow = false then s.link.acquire else s.link } := by
  rw [execAutoloadEnd, if_pos h]
  simp only [acquireIfPresent]
  cases s.resetLow <;> cases s.dockPresent <;> rfl

/-- Settles O13: `powerOnContents` for both losses of the contents, and the image's check at the end of the autoload. -/
theorem partStartsAndLosesSupply : Obligations.PartStartsAndLosesSupply := by
  refine ⟨fun s => ?supply, fun s => ⟨fun h => if_neg h, fun h => ⟨fun bs hb hp => ?passes, fun hp => ?fails⟩⟩⟩
  case supply =>
    cases hc : s.store.commit <;>
      simp [exec, execPowerOn, execSupplyFailure, powerOnContents, Store.imageUnpowered, hc]
  case passes =>
    refine (execAutoloadEnd_autoload h).trans ?_
    rw [autoloadStore_passes hb hp]
    rfl
  case fails =>
    refine (execAutoloadEnd_autoload h).trans ?_
    rw [autoloadStore_fails hp]
    rfl

end Sys2Proof.Machine

/-! PROOFS. The pins and the Command Port's own matters: response transactions, the length check, STATUS, READ CAUSES and
CHANNEL STATS (chapter 10, R50, R51, R61, R62, R193, R199). -/

namespace Sys2Proof.Machine

/-! ## The pins (R193, R50, R51, R199) -/

theorem awake_of_listens {s : State} (h : s.listens) : s.awake = true := (listens_iff s).1 h

theorem awake_eq_false {s : State} (h : ¬ s.listens) : s.awake = false :=
  Bool.eq_false_iff.2 fun ha => h ((listens_iff s).2 ha)

/-- Two sets of causes meet exactly when a bit stands in both. -/
theorem and_ne_zero_iff {w : Nat} (a b : BitVec w) :
    a &&& b ≠ 0#w ↔ ∃ k, k < w ∧ a.getLsbD k = true ∧ b.getLsbD k = true := by
  constructor
  · intro h
    by_contra hno
    refine h (BitVec.eq_of_getLsbD_eq fun k hk => ?_)
    cases ha : a.getLsbD k <;> cases hb : b.getLsbD k <;> simp [ha, hb]
    exact hno ⟨k, hk, ha, hb⟩
  · rintro ⟨k, -, ha, hb⟩ h
    have := congrArg (fun x => x.getLsbD k) h
    simp [ha, hb] at this

theorem attnLow_iff {s : State} (h : s.listens) :
    s.attnLow = true ↔ ∃ k, k < 8 ∧ s.port.causes.getLsbD k = true ∧ s.store.live.mask.getLsbD k = true := by
  rw [State.attnLow, awake_of_listens h, Bool.true_and, bne_iff_ne, and_ne_zero_iff]

/-- An awake part that does not wait for a tenth drives each line by its source (R199). -/
theorem indLevel_driven {s : State} (i : Fin 4) (h : s.listens) (hw : s.lines.indWait = false) :
    s.indLevel i = if s.sourceTrue (s.store.live.sources.get i) then .high else .low := by
  simp [State.indLevel, awake_of_listens h, hw]

/-- Settles O60: the lines of a part that does not listen, and then each line by its condition. -/
theorem pinsFollowTheState : Obligations.PinsFollowTheState := by
  refine fun s i => ⟨fun h => ?asleep, fun h => ⟨attnLow_iff h, ?rx, fun hw => ?waits, fun hw => ?driven⟩⟩
  case asleep => simp [State.attnLow, State.rxEnable, State.indLevel, awake_eq_false h]
  case rx => simp [State.rxEnable, awake_of_listens h]
  case waits => simp [State.indLevel, hw]
  case driven =>
    rw [indLevel_driven i h hw]
    have hsplit (b : Bool) : (if b then Level.high else Level.low) = .high ↔ b = true := by cases b <;> simp
    refine ⟨?_, fun hne => ?_⟩
    · rw [hsplit]
      cases s.store.live.sources.get i <;> simp [State.sourceTrue]
    · rw [if_neg (mt (hsplit _).2 hne)]

/-! ## RESPONSE (R189) -/

/-- The bytes that MISO carries after the fill: the response cut or filled up to the bytes clocked. -/
theorem misoBytes_eq (p : Port) (n : Nat) :
    p.misoBytes n = 0xFF#8 :: (p.responseBytes ++ List.replicate n 0xFF#8).take n := by
  rw [List.take_append, List.take_replicate, Nat.min_eq_left (Nat.sub_le ..)]
  rfl

/-- A RESPONSE that the port takes (R189). -/
theorem execResponse_taken {s : State} (n : Nat) (h : s.listens) :
    execResponse n false s = .next { s with
      port.miso := s.port.misoBytes n
      port.buffer := if s.port.responseBytes.length ≤ n then none else s.port.buffer } :=
  if_pos ((takes_eq s false).2 ⟨h, rfl⟩)

/-- A RESPONSE that the port does not take changes nothing (R186). -/
theorem execResponse_untaken {s : State} (n : Nat) {dropped : Bool} (h : ¬ (s.listens ∧ dropped = false)) :
    execResponse n dropped s = .next s :=
  if_neg (mt (takes_eq s dropped).1 h)

/-- Settles O56: the bytes of an EMPTY and of a HELD buffer, and the two ways in which the port does not take one. -/
theorem responseReadsTheBuffer : Obligations.ResponseReadsTheBuffer := by
  refine fun s n => ⟨fun h => execResponse_untaken n fun k => h k.1, execResponse_untaken n (by simp), fun h hb => ?empty,
    fun st data h hb => ?held⟩
  case empty =>
    have hbytes : s.port.responseBytes = [0x02#8, 0x00#8] := by rw [Port.responseBytes, hb]; rfl
    refine (execResponse_taken n h).trans ?_
    rw [misoBytes_eq, hbytes, hb, ite_self, ← hb]
    rfl
  case held =>
    have hbytes : s.port.responseBytes = BitVec.ofNat 8 st.code :: BitVec.ofNat 8 data.length :: data := by
      rw [Port.responseBytes, hb]; rfl
    refine (execResponse_taken n h).trans ?_
    rw [misoBytes_eq, hbytes, hb, List.length_cons, List.length_cons, Nat.add_assoc, Nat.add_comm]

/-! ## The length check and the codes (R187) -/

/-- Every row of the host's commands is the command wrapper with its code, its length and an owner. -/
theorem hostRow_command {h : HostRow} (hh : h ∈ hostRows) :
    ∃ owner : List Byte → State → Answer, ∀ tx s, exec (h.row tx) s = command h.code h.len owner tx s := by
  simp only [hostRows, List.mem_cons, List.not_mem_nil, or_false] at hh
  have reset : ∃ owner : List Byte → State → Answer, ∀ tx s, exec (.reset tx) s = command 0x0E#8 0 owner tx s :=
    ⟨fun _ s => .next (commandReset s), fun _ _ => rfl⟩
  rcases hh with rfl | rfl | rfl | rfl | rfl | rfl | rfl | rfl | rfl | rfl | rfl | rfl | rfl | rfl | rfl | rfl | rfl | rfl
    | rfl | rfl | rfl | rfl | rfl | rfl | rfl | rfl | rfl | rfl | rfl | rfl | rfl | rfl | rfl
  case inr.inr.inl => exact reset
  all_goals exact ⟨_, fun _ _ => rfl⟩

/-- What UNKNOWN_COMMAND does by its code: the command that the code names, a RESPONSE, or the answer UNKNOWN_COMMAND (R187,
log entry 15). -/
theorem execUnknownCommand_cases (code : Byte) (tx : Tx) (s : State) :
    (∃ h ∈ hostRows, h.code = code ∧ execUnknownCommand code tx s = exec (h.row tx) s)
    ∨ (code = 0xF0#8 ∧ execUnknownCommand code tx s = execResponse tx.rest.length tx.dropped s)
    ∨ (execUnknownCommand code tx s
        = if s.takes tx.dropped then reply .unknownCommand [code] (carryFill tx s) else .next s) := by
  have hcode (n : Nat) (hn : code.toNat = n) : BitVec.ofNat 8 n = code := by rw [← hn, BitVec.ofNat_toNat, BitVec.setWidth_eq]
  unfold execUnknownCommand
  split
  case h_34 hn => exact .inr (.inl ⟨(hcode _ hn).symm, rfl⟩)
  case h_35 => exact .inr (.inr rfl)
  all_goals
    rename_i hn
    refine .inl ?_
    rw [← hcode _ hn]
    simp only [hostRows, List.mem_cons, List.not_mem_nil, or_false, exists_eq_or_imp, exists_eq_left]
    simp
    rfl

/-- Where a code names no row, UNKNOWN_COMMAND is answered so, and a transaction that the port does not take is discarded. -/
theorem execUnknownCommand_unnamed {code : Byte} {tx : Tx} {s : State} (hc : code ≠ 0xF0#8)
    (hn : ∀ h ∈ hostRows, h.code ≠ code) :
    execUnknownCommand code tx s
      = if s.takes tx.dropped then reply .unknownCommand [code] (carryFill tx s) else .next s := by
  rcases execUnknownCommand_cases code tx s with ⟨h, hh, he, -⟩ | ⟨he, -⟩ | he
  · exact absurd he (hn h hh)
  · exact absurd he hc
  · exact he

/-- A transaction of a wrong shape or length fails the length check (R187). -/
theorem txFits_eq_false {tx : Tx} {len : Nat}
    (h : tx.rest = [] ∨ tx.partialEnd = true
      ∨ ∃ n args, tx.rest = n :: args ∧ (args.length ≠ n.toNat ∨ n.toNat ≠ len)) : txFits tx len = false := by
  unfold txFits
  rcases h with h | h | ⟨n, args, h, hl⟩
  · rw [h]
  · split <;> simp [h]
  · rw [h]
    rcases hl with hl | hl <;> simp [hl]

/-- Settles O55: every row by the command wrapper, and an unknown code by the branches of its dispatch. -/
theorem portJudgesTransactions : Obligations.PortJudgesTransactions := by
  refine fun s tx code => ⟨fun h hh hu => ?untaken, fun hu => ?unknownUntaken, fun h hh hs hd hf => ?badLength,
    fun hs hd hc hn => ?unknown⟩
  case untaken =>
    obtain ⟨owner, ho⟩ := hostRow_command hh
    rw [ho, command_untaken hu]
  case unknownUntaken =>
    have hnot : ¬ (s.listens ∧ tx.dropped = false) := by
      rintro ⟨hs, hd⟩
      rcases hu with hu | hu
      · exact hu hs
      · simp [hd] at hu
    show execUnknownCommand code tx s = .next s
    rcases execUnknownCommand_cases code tx s with ⟨h, hh, -, he⟩ | ⟨-, he⟩ | he
    · obtain ⟨owner, ho⟩ := hostRow_command hh
      rw [he, ho, command_untaken hu]
    · rw [he, execResponse_untaken _ hnot]
    · rw [he, if_neg (mt (takes_eq s tx.dropped).1 hnot)]
  case badLength =>
    obtain ⟨owner, ho⟩ := hostRow_command hh
    have hlen : (txArgs tx).length = tx.rest.length - 1 := List.length_drop
    rw [ho, command_badLength hs hd (txFits_eq_false hf), hlen]
    rfl
  case unknown =>
    refine (execUnknownCommand_unnamed hc hn).trans ?_
    rw [if_pos ((takes_eq s tx.dropped).2 ⟨hs, hd⟩)]
    rfl

/-! ## STATUS, READ CAUSES and CHANNEL STATS (R61, R62, R191, R194) -/

theorem exec_status (tx : Tx) (s : State) : exec (.status tx) s = command 0x01#8 0 commandStatus tx s := rfl

theorem exec_readCauses (tx : Tx) (s : State) : exec (.readCauses tx) s = command 0x02#8 0 commandReadCauses tx s := rfl

theorem exec_channelStats (tx : Tx) (s : State) : exec (.channelStats tx) s = command 0x30#8 2 commandChannelStats tx s := rfl

/-- The flags byte of STATUS while the port listens (Table 12-6). -/
theorem statusFlags_eq {s : State} (hs : s.listens) :
    s.statusFlags = (if s.store.commit.isSome then 1 else 0) + (if s.store.defaulted then 2 else 0)
      + (if s.port.causes &&& s.store.live.mask = 0#8 then 0 else 4) := by
  have hattn : s.attnLow = !decide (s.port.causes &&& s.store.live.mask = 0#8) := by
    rw [State.attnLow, awake_of_listens hs, Bool.true_and]
    rfl
  rw [State.statusFlags, hattn]
  by_cases h : s.port.causes &&& s.store.live.mask = 0#8 <;> simp [bitIf, h]

/-- CHANNEL STATS of a channel: its standing, and its counters cleared by a non-zero selector (R61, R62). -/
theorem commandChannelStats_channel {ch sel : Byte} {i : Fin 4} (h : ch.toNat = i.val) (s : State) :
    commandChannelStats [ch, sel] s
      = reply .ok
          (beBytes 1 i.val ++ beBytes 1 (bitIf (s.store.live.enables.get i) 0)
            ++ beBytes 1 (s.channels.get i).fifo.length ++ (s.channels.get i).stats.bytes)
          (if sel = 0#8 then s else onChannel i (fun c => { c with stats := {} }) s) := by
  have hlt : (byteAt [ch, sel] 0).toNat < 4 := by show ch.toNat < 4; omega
  have hi : (⟨(byteAt [ch, sel] 0).toNat, hlt⟩ : Fin 4) = i := Fin.ext h
  rw [commandChannelStats, dif_pos hlt]
  have hsel : byteAt [ch, sel] 0 = ch ∧ byteAt [ch, sel] 1 = sel := ⟨rfl, rfl⟩
  simp only [hsel, h]

/-- The 49 bytes of STATUS, with the fields of one byte written out (Table 12-6). -/
theorem statusBytes_eq {s : State} (hs : s.listens) :
    s.statusBytes =
      [BitVec.ofNat 8 s.route.state.code, BitVec.ofNat 8 s.route.owner.code] ++ beBytes 4 s.route.routeId.toNat
        ++ beBytes 2 s.route.count ++ beBytes 2 s.route.received ++ beBytes 2 s.route.rejects ++ beBytes 3 s.route.clock
        ++ beBytes 2 s.rosterCount ++ beBytes 2 s.eval.queue.length
        ++ beBytes 2 (slotCode (s.eval.running.map (fun c => c.slot)))
        ++ beBytes 2 s.chain.length ++ beBytes 2 s.seg.revisit.length
        ++ [BitVec.ofNat 8 s.link.state.code, BitVec.ofNat 8 s.link.held.code] ++ beBytes 2 s.link.errors
        ++ [BitVec.ofNat 8 s.upload.state.code] ++ beBytes 2 (slotCode s.upload.cursor)
        ++ beBytes 1 s.upload.table.length
        ++ beBytes 2 s.upload.sent ++ beBytes 2 s.upload.retired ++ beBytes 2 s.upload.returned
        ++ beBytes 2 s.upload.timeouts ++ beBytes 2 s.upload.strays ++ beBytes 2 s.upload.ignored
        ++ [BitVec.ofNat 8 ((if s.store.commit.isSome then 1 else 0) + (if s.store.defaulted then 2 else 0)
              + (if s.port.causes &&& s.store.live.mask = 0#8 then 0 else 4)),
            s.port.causes, s.store.live.mask, BitVec.ofNat 8 s.port.resetCause.code] := by
  have hflags := statusFlags_eq hs
  generalize (if s.store.commit.isSome then 1 else 0) + (if s.store.defaulted then 2 else 0)
    + (if s.port.causes &&& s.store.live.mask = 0#8 then 0 else 4) = flags at hflags ⊢
  unfold State.statusBytes
  simp only [hflags, beBytes_one]
  simp only [List.append_assoc, List.cons_append, List.nil_append]

/-- Settles O57: the layout of each answer byte by byte, on the state that the fill of MISO leaves. -/
theorem standingIsReported : Obligations.StandingIsReported := by
  intro s ch sel hs slot
  refine ⟨answers_of_reply exec_status hs rfl (by decide) ?status,
    answers_of_reply exec_readCauses hs rfl (by decide) rfl,
    fun h => answers_of_reply exec_channelStats hs rfl (by decide) (dif_neg (Nat.not_lt.2 h)),
    fun i h => answers_of_reply exec_channelStats hs rfl (by decide) ?stats⟩
  case status =>
    rw [commandStatus, statusBytes_eq (s := carryFill (txCarrying []) s) hs]
    rfl
  case stats =>
    have hch : BitVec.ofNat 8 i.val = ch := by rw [← h, BitVec.ofNat_toNat, BitVec.setWidth_eq]
    have henable (b : Bool) : BitVec.ofNat 8 (bitIf b 0) = if b then 1#8 else 0#8 := by cases b <;> rfl
    rw [commandChannelStats_channel h, apply_ite (carryFill (txCarrying [ch, sel]))]
    simp only [beBytes_one, hch, henable, Stats.bytes, List.append_assoc, List.cons_append, List.nil_append]
    rfl

end Sys2Proof.Machine

/-! PROOFS. The Settings Store: the commands (R201, R203, R204) and the settings image (R202, R205). -/

namespace Sys2Proof.Machine

/-! ## SETTINGS WRITE, SETTINGS COMMIT and INDICATOR SET (R201, R203, R204) -/

theorem exec_settingsWrite (tx : Tx) (s : State) :
    exec (.settingsWrite tx) s = command 0x60#8 13 commandSettingsWrite tx s := rfl

theorem exec_settingsCommit (tx : Tx) (s : State) :
    exec (.settingsCommit tx) s = command 0x61#8 0 commandSettingsCommit tx s := rfl

theorem exec_indicatorSet (tx : Tx) (s : State) :
    exec (.indicatorSet tx) s = command 0x62#8 2 commandIndicatorSet tx s := rfl

section
variable {s : State} {args : List Byte}

/-- SETTINGS WRITE during a commit is refused (R203). -/
theorem commandSettingsWrite_busy (hc : s.store.commit ≠ none) : commandSettingsWrite args s = reply .busy [] s :=
  if_pos (Option.isSome_iff_ne_none.2 hc)

/-- SETTINGS WRITE with no commit in progress writes the selected groups (R203). -/
theorem commandSettingsWrite_ok (hc : s.store.commit = none) :
    commandSettingsWrite args s
      = reply .ok (s.store.live.write (byteAt args 0) (args.drop 1)).bytes
          { s with
            store.live := s.store.live.write (byteAt args 0) (args.drop 1)
            channels := enableChanges s.store.live.enables (s.store.live.write (byteAt args 0) (args.drop 1)).enables
              s.channels } :=
  if_neg (by simp [hc])

/-- SETTINGS COMMIT during a commit is refused (R204). -/
theorem commandSettingsCommit_busy (hc : s.store.commit ≠ none) : commandSettingsCommit args s = reply .busy [] s :=
  if_pos (Option.isSome_iff_ne_none.2 hc)

/-- SETTINGS COMMIT with no commit in progress copies the live settings (R204). -/
theorem commandSettingsCommit_ok (hc : s.store.commit = none) :
    commandSettingsCommit args s
      = reply .ok []
          { s with store.commit := some { copy := s.store.live, check := imageCheck s.store.live.imageBody } } :=
  if_neg (by simp [hc])

/-- INDICATOR SET of one of the four lines switches it (R201). -/
theorem commandIndicatorSet_line {line value : Byte} {i : Fin 4} (h : line.toNat = i.val) (s : State) :
    commandIndicatorSet [line, value] s
      = reply .ok (sourceBytes (s.store.live.sources.set i (if value = 0#8 then .off else .on)))
          { s with store.live.sources := s.store.live.sources.set i (if value = 0#8 then .off else .on) } := by
  have hlt : (byteAt [line, value] 0).toNat < 4 := by show line.toNat < 4; omega
  have hi : (⟨(byteAt [line, value] 0).toNat, hlt⟩ : Fin 4) = i := Fin.ext h
  have hvalue : byteAt [line, value] 1 = value := rfl
  rw [commandIndicatorSet, dif_pos hlt]
  simp only [hi, hvalue]

end

/-- A channel after a write of the enables: back in GAP_WAIT when its enable went off (R50). -/
theorem get_enableChanges (was now : Quad Bool) (q : Quad Channel) (ch : Fin 4) :
    (enableChanges was now q).get ch
      = if was.get ch = true ∧ now.get ch = false then { q.get ch with rx := .gapWait, word := {} } else q.get ch := by
  have hone (w n : Bool) (c : Channel) :
      enableChange w n c = if w = true ∧ n = false then { c with rx := .gapWait, word := {} } else c := by
    cases w <;> cases n <;> rfl
  fin_cases ch <;> exact hone _ _ _

theorem execSettingsCommitCompletion_commit {s : State} {c : CommitCopy} (hc : s.store.commit = some c) :
    execSettingsCommitCompletion s
      = .next { s with store.image := .whole (c.copy.imageBody ++ beBytes 2 c.check), store.commit := none } := by
  rw [execSettingsCommitCompletion, hc]

/-- Settles O58: the branches of the three owners and of the completion in turn. -/
theorem settingsAreWrittenAndCommitted : Obligations.SettingsAreWrittenAndCommitted := by
  intro s sel bs line value hlen old new
  have hnew : old.write (byteAt (sel :: bs) 0) ((sel :: bs).drop 1) = new := by
    have hsources : sourcesOf (bs.drop 5) = ⟨sourceOfCode (byteAt bs 5).toNat, sourceOfCode (byteAt bs 6).toNat,
        sourceOfCode (byteAt bs 7).toNat, sourceOfCode (byteAt bs 8).toNat⟩ := by
      simp only [sourcesOf, byteAt, List.getD_eq_getElem?_getD, List.getElem?_drop]
    show old.write sel bs = new
    simp only [Settings.write, hsources]
    rfl
  have writes (hs : s.listens) {st data t} : commandSettingsWrite (sel :: bs) (carryFill (txCarrying (sel :: bs)) s)
      = reply st data (carryFill (txCarrying (sel :: bs)) t) → Answers .settingsWrite (sel :: bs) s st data t :=
    answers_of_reply exec_settingsWrite hs (by simp [hlen]) (by decide)
  have commits (hs : s.listens) {st data t} : commandSettingsCommit [] (carryFill (txCarrying []) s)
      = reply st data (carryFill (txCarrying []) t) → Answers .settingsCommit [] s st data t :=
    answers_of_reply exec_settingsCommit hs rfl (by decide)
  refine ⟨fun hs hc => ⟨writes hs (commandSettingsWrite_busy hc), commits hs (commandSettingsCommit_busy hc)⟩,
    fun hs hc => ⟨?written, commits hs (commandSettingsCommit_ok hc)⟩, fun hc => ?notMade, fun c hc => ?completed,
    fun hs hl => answers_of_reply exec_indicatorSet hs rfl (by decide) (dif_neg (Nat.not_lt.2 hl)),
    fun i hs hl => answers_of_reply exec_indicatorSet hs rfl (by decide) (commandIndicatorSet_line hl _)⟩
  case written =>
    refine ⟨{ s with store.live := new, channels := enableChanges old.enables new.enables s.channels },
      writes hs ?_, rfl, fun ch => get_enableChanges _ _ _ ch⟩
    refine (commandSettingsWrite_ok (s := carryFill (txCarrying (sel :: bs)) s) hc).trans ?_
    rw [carryFill_store, hnew]
    rfl
  case notMade =>
    show execSettingsCommitCompletion s = .next s
    rw [execSettingsCommitCompletion, hc]
  case completed =>
    refine (execSettingsCommitCompletion_commit hc).trans ?_
    rw [Settings.imageBody]

/-! ## The check of the settings image (R202) -/

/-- The exclusive-or with all ones is the difference to all ones. -/
theorem xor_allOnes (n : Nat) : (n % 65536) ^^^ 0xFFFF = 65535 - n % 65536 := by
  have h := BitVec.toNat_not (x := BitVec.ofNat 16 n)
  rw [← BitVec.xor_allOnes, BitVec.toNat_xor, BitVec.toNat_allOnes, BitVec.toNat_ofNat] at h
  exact h

theorem imageCheck_eq (body : List Byte) :
    imageCheck body = 65535 - (body.map (fun b => b.toNat)).sum % 65536 := by
  have hsum : body.foldl (fun a b => a + b.toNat) 0 = (body.map (fun b => b.toNat)).sum := by
    rw [List.sum_eq_foldl, List.foldl_map]
  rw [imageCheck, xor_allOnes, hsum]

/-- A field of two bytes. -/
theorem fieldAt_two {bs : List Byte} {off : Nat} (h : off + 1 < bs.length) :
    fieldAt bs off 2 = 256 * (byteAt bs off).toNat + (byteAt bs (off + 1)).toNat := by
  have htake : (bs.drop off).take 2 = [bs[off], bs[off + 1]] := by
    rw [List.drop_eq_getElem_cons (by omega), List.drop_eq_getElem_cons h]
    rfl
  rw [fieldAt, htake]
  simp [beNat, byteAt, h, Nat.lt_of_succ_lt h, Nat.mul_comm]

theorem passes_whole_iff {bs : List Byte} (h : bs.length = 256) :
    (Image.whole bs).passes = true
      ↔ 256 * (byteAt bs 254).toNat + (byteAt bs 255).toNat
          = 65535 - ((bs.take 254).map (fun b => b.toNat)).sum % 65536 := by
  rw [Image.passes, beq_iff_eq, fieldAt_two (by omega), imageCheck_eq]

/-- An array that reads one byte value everywhere fails its check where the sum of 254 of them and the value twice over are not
the difference to 65535. -/
theorem passes_replicate (b : Byte) (hb : 257 * b.toNat ≠ 65535 - 254 * b.toNat) :
    (Image.whole (List.replicate 256 b)).passes = false := by
  have hbyte {n i : Nat} (hi : i < n) : byteAt (List.replicate n b) i = b := by simp [byteAt, hi]
  rw [Bool.eq_false_iff, Ne, passes_whole_iff List.length_replicate, hbyte (by decide : 254 < 256),
    hbyte (by decide : 255 < 256), List.take_replicate, List.map_replicate, List.sum_replicate, smul_eq_mul,
    Nat.min_eq_left (by decide : 254 ≤ 256)]
  refine fun h => hb ?_
  have := b.isLt
  omega

/-! ## The bytes of the settings, read back (R202, R205) -/

theorem sourceOfCode_code (x : Source) : sourceOfCode x.code = x := by cases x <;> rfl

theorem source_code_lt (x : Source) : x.code < 256 := by cases x <;> decide

theorem sourcesOf_sourceBytes (q : Quad Source) (rest : List Byte) : sourcesOf (sourceBytes q ++ rest) = q := by
  have hone (x : Source) : sourceOfCode (BitVec.ofNat 8 x.code).toNat = x := by
    rw [BitVec.toNat_ofNat, Nat.mod_eq_of_lt (source_code_lt x), sourceOfCode_code]
  simp only [sourcesOf, sourceBytes, byteAt, List.cons_append, List.getD_cons_zero, List.getD_cons_succ, hone]

theorem enablesOf_enablesByte (e : Quad Bool) : enablesOf (enablesByte e) = e := by
  obtain ⟨a, b, c, d⟩ := e
  revert a b c d
  decide

theorem Settings.bytes_length (t : Settings) : t.bytes.length = 12 := by
  simp [Settings.bytes, sourceBytes]

/-- All groups written from the settings bytes of a setting in range give its values (R203). -/
theorem write_bytes {old t : Settings} (ht : t.inRange) (rest : List Byte) :
    old.write 0x3F#8 (t.bytes ++ rest) = { t with profiles := old.profiles } := by
  obtain ⟨hgrace, htime1, htime, -⟩ := ht
  have hunit : BitVec.ofNat 32 (fieldAt (t.bytes ++ rest) 0 4) = t.unit := by
    rw [Settings.bytes, List.append_assoc, List.append_assoc, List.append_assoc, fieldAt_head,
      Nat.mod_eq_of_lt (show t.unit.toNat < 256 ^ 4 from t.unit.isLt), BitVec.ofNat_toNat, BitVec.setWidth_eq]
  have hmask : byteAt (t.bytes ++ rest) 4 = t.mask := rfl
  have hsources : sourcesOf ((t.bytes ++ rest).drop 5) = t.sources := sourcesOf_sourceBytes t.sources _
  have hg : graceOf (byteAt (t.bytes ++ rest) 9) = t.grace := by
    show graceOf (BitVec.ofNat 8 t.grace) = t.grace
    rw [graceOf, BitVec.toNat_ofNat]
    omega
  have ht : timeoutOf (byteAt (t.bytes ++ rest) 10) = t.timeout := by
    show timeoutOf (BitVec.ofNat 8 t.timeout) = t.timeout
    rw [timeoutOf, BitVec.toNat_ofNat]
    omega
  have he : enablesOf (byteAt (t.bytes ++ rest) 11) = t.enables := enablesOf_enablesByte t.enables
  simp only [Settings.write, hunit, hmask, hsources, hg, ht, he]
  rfl

theorem Profile.bytes_length (p : Profile) : p.bytes.length = 13 := by simp [Profile.bytes]

/-- The bytes of a profile in range give the profile back (12.5). -/
theorem profileOf_bytes_self {p : Profile} (hp : p.inRange) : profileOf p.bytes = p := by
  obtain ⟨hd4, hd9, hthreshold, hsmooth, hlen, hweights⟩ := hp
  have hmod : ∀ w ∈ p.weights, (BitVec.ofNat 8 w).toNat = w := fun w hw => by
    rw [BitVec.toNat_ofNat, Nat.mod_eq_of_lt (Nat.lt_succ_of_le (hweights w hw))]
  have hws : p.bytes = BitVec.ofNat 8 p.digits :: BitVec.ofNat 8 p.threshold :: BitVec.ofNat 8 p.smoothing
      :: p.weights.map (BitVec.ofNat 8) := by
    rw [Profile.bytes, ← hlen, map_range_getD p.weights 0 (BitVec.ofNat 8)]
    rfl
  rw [hws, profileOf_bytes _ _ _ (by simp [hlen]), List.map_map,
    show p.weights.map ((fun w => w.toNat) ∘ BitVec.ofNat 8) = p.weights from (List.map_congr_left hmod).trans (List.map_id _)]
  simp only [BitVec.toNat_ofNat]
  obtain ⟨digits, threshold, smoothing, weights⟩ := p
  simp only [Profile.mk.injEq, and_true] at *
  omega

/-- The i-th of the pieces of one length that make up a layout. -/
theorem take_drop_flatMap {α β : Type} {f : α → List β} {n : Nat} {l : List α} (hf : ∀ a ∈ l, (f a).length = n)
    (rest : List β) {i : Nat} (hi : i < l.length) : ((l.flatMap f ++ rest).drop (n * i)).take n = f l[i] := by
  induction l generalizing i with
  | nil => simp at hi
  | cons a t ih =>
    have ha : (f a).length = n := hf a List.mem_cons_self
    rw [List.flatMap_cons, List.append_assoc]
    cases i with
    | zero => rw [Nat.mul_zero, List.drop_zero, ← ha, List.take_left]; rfl
    | succ i =>
      rw [Nat.mul_succ, Nat.add_comm, ← List.drop_drop, ← ha, List.drop_left, ha]
      exact ih (fun b hb => hf b (List.mem_cons_of_mem _ hb)) (Nat.lt_of_succ_lt_succ hi)

/-- The settings read from an image body give the settings back (R205). -/
theorem settingsOf_imageBody {t : Settings} (ht : t.inRange) (rest : List Byte) :
    settingsOf (t.imageBody ++ rest) = t := by
  have hprofile (i : Fin 16) : profileOf (((t.imageBody ++ rest).drop (12 + 13 * i.val)).take 13) = t.profiles[i] := by
    have hbody : (t.imageBody ++ rest).drop 12
        = t.profiles.toList.flatMap Profile.bytes ++ (List.replicate 34 0#8 ++ rest) := by
      rw [Settings.imageBody, List.append_assoc, List.append_assoc, ← t.bytes_length, List.drop_left]
    obtain ⟨-, -, -, hranges⟩ := ht
    rw [← List.drop_drop, hbody, take_drop_flatMap (fun p _ => p.bytes_length) _ (by simp),
      profileOf_bytes_self (hranges _ (List.getElem_mem _))]
    simp
  have hprofiles : Vector.ofFn (fun i : Fin 16 => profileOf (((t.imageBody ++ rest).drop (12 + 13 * i.val)).take 13))
      = t.profiles := by
    simp only [hprofile]
    ext i hi
    simp
  rw [settingsOf, hprofiles, Settings.imageBody, List.append_assoc, List.append_assoc, write_bytes ht]

theorem imageBody_length (t : Settings) : t.imageBody.length = 254 := by
  have hprofiles : (t.profiles.toList.flatMap Profile.bytes).length = 208 := by
    simp [List.length_flatMap, Profile.bytes_length]
  rw [Settings.imageBody, List.length_append, List.length_append, hprofiles, t.bytes_length, List.length_replicate]

theorem imageCheck_le (body : List Byte) : imageCheck body ≤ 65535 := by
  rw [imageCheck_eq]
  omega

/-- The image that a commit writes passes its check (R202, R204). -/
theorem passes_committed (t : Settings) :
    (Image.whole (t.imageBody ++ beBytes 2 (imageCheck t.imageBody))).passes = true := by
  have hlt := Nat.lt_succ_of_le (imageCheck_le t.imageBody)
  have hfield : fieldAt (t.imageBody ++ beBytes 2 (imageCheck t.imageBody)) 254 2 = imageCheck t.imageBody := by
    have h := fieldAt_entryNumber hlt
    rwa [← Nat.sub_self t.imageBody.length, ← fieldAt_append t.imageBody _ _ _ (Nat.le_refl _), imageBody_length] at h
  rw [Image.passes, beq_iff_eq, hfield, ← imageBody_length t, List.take_left]

/-- Settles O59: the check by its arithmetic, and the committed image by the round trips of its parts. -/
theorem committedImageLoadsBack : Obligations.CommittedImageLoadsBack :=
  ⟨imageCheck_eq, fun _ h => passes_whole_iff h, passes_replicate 0x00#8 (by decide), passes_replicate 0xFF#8 (by decide), rfl,
    fun t ht => ⟨passes_committed t, settingsOf_imageBody ht _⟩⟩

end Sys2Proof.Machine

/-! PROOFS. The air path: the channel inputs (R49 to R57), the rotation of the takes (R65, R66), and the tests of a taken word
(R71 to R77, R81). -/

namespace Sys2Proof.Machine

/-! ## The channel inputs (R49 to R51) -/

@[simp] theorem set_get {α : Type} (q : Quad α) (i : Fin 4) : q.set i (q.get i) = q := by
  fin_cases i <;> rfl

@[simp] theorem set_set {α : Type} (q : Quad α) (i : Fin 4) (a b : α) : (q.set i a).set i b = q.set i b := by
  fin_cases i <;> rfl

/-- A channel listens when the part does and its enable is on (R50, R51). -/
theorem rxEnable_iff {s : State} {ch : Fin 4} :
    s.rxEnable ch = true ↔ s.listens ∧ s.store.live.enables.get ch = true := by
  rw [State.rxEnable, Bool.and_eq_true, listens_iff]

/-- In GAP_WAIT bytes are not gathered (R49). -/
theorem foldl_byte_gapWait {c : Channel} (h : c.rx = .gapWait) (bytes : List RxByte) : bytes.foldl Channel.byte c = c := by
  induction bytes with
  | nil => rfl
  | cons b t ih => rw [List.foldl_cons, Channel.byte, h]; exact ih

/-- In ASSEMBLING the bytes join the word (R49). -/
theorem foldl_byte_assembling {c : Channel} (h : c.rx = .assembling) (bytes : List RxByte) :
    bytes.foldl Channel.byte c = { c with word := bytes.foldl Assembling.push c.word } := by
  induction bytes generalizing c with
  | nil => rfl
  | cons b t ih =>
    have hb : c.byte b = { c with word := c.word.push b } := by rw [Channel.byte, h]
    rw [List.foldl_cons, List.foldl_cons, hb, ih (c := { c with word := c.word.push b }) h]

theorem channelGap_gapWait {ch : Fin 4} {s : State} (h : (s.channels.get ch).rx = .gapWait) :
    channelGap ch s
      = { s with channels := s.channels.set ch { s.channels.get ch with rx := .assembling, word := {} } } := by
  simp only [channelGap, h]

theorem channelGap_assembling {ch : Fin 4} {s : State} (h : (s.channels.get ch).rx = .assembling) :
    channelGap ch s = if (s.channels.get ch).word.count = 0 then s else wordArrival ch s := by
  simp only [channelGap, h]

/-- Settles O21: a channel that does not listen, one in GAP_WAIT, and a gap with no byte gathered. -/
theorem gapsAndDeafChannels : Obligations.GapsAndDeafChannels := by
  refine fun s ch bytes => ⟨fun h => ?deaf, fun hs he hr => ⟨?gap, ?word⟩, fun hs he hr hc => ?empty⟩
  case deaf =>
    have hrx : ¬ s.rxEnable ch = true := fun hx => h (rxEnable_iff.1 hx)
    exact ⟨by rw [exec, execWordEndGap, if_neg hrx], by rw [exec, execChannelWordArrival, if_neg hrx]⟩
  case gap => rw [exec, execWordEndGap, if_pos (rxEnable_iff.2 ⟨hs, he⟩), channelGap_gapWait hr]
  case word =>
    have hbytes : onChannel ch (fun c => bytes.foldl Channel.byte c) s = s := by
      rw [onChannel, foldl_byte_gapWait hr, set_get]
    rw [exec, execChannelWordArrival, if_pos (rxEnable_iff.2 ⟨hs, he⟩), hbytes, channelGap_gapWait hr]
  case empty => rw [exec, execWordEndGap, if_pos (rxEnable_iff.2 ⟨hs, he⟩), channelGap_assembling hr, if_pos hc]

/-! ## The word in assembly and its judging (R49, R52, R54) -/

/-- The word that bytes make, gathered onto a word that has kept what it counted (R49). -/
theorem foldl_push (bytes : List RxByte) {w : Assembling} (hc : w.count ≤ 15) (hb : w.bytes.length = min 14 w.count) :
    bytes.foldl Assembling.push w
      = { count := min 15 (w.count + bytes.length)
          fault := w.fault || bytes.any (fun b => b.fault)
          bytes := (w.bytes ++ bytes.map (fun b => b.val)).take 14 } := by
  induction bytes generalizing w with
  | nil =>
    have htake : w.bytes.take 14 = w.bytes := List.take_of_length_le (by omega)
    simp [hc, htake]
  | cons b t ih =>
    have hlen : (w.push b).bytes.length = min 14 (w.push b).count := by
      simp only [Assembling.push]
      split
      · rw [List.length_append, hb, List.length_singleton]; omega
      · omega
    rw [List.foldl_cons, ih (by simp only [Assembling.push]; omega) hlen]
    simp only [Assembling.push, Assembling.mk.injEq, List.length_cons, List.any_cons, Bool.or_assoc, true_and, List.map_cons]
    refine ⟨by omega, ?_⟩
    split
    · rw [List.append_assoc, List.singleton_append]
    · rw [List.take_append_of_le_length (by omega), List.take_append_of_le_length (by omega)]

/-- The word that bytes make from an empty one. -/
theorem foldl_push_empty (bytes : List RxByte) :
    bytes.foldl Assembling.push {}
      = { count := min 15 bytes.length, fault := bytes.any (fun b => b.fault)
          bytes := (bytes.map (fun b => b.val)).take 14 } := by
  simpa using foldl_push bytes (w := {}) (by decide) rfl

/-- The tests of Table 3-2 on a word as it arrives, in their order. -/
def judgeBytes (bytes : List RxByte) (held : Nat) : Counter :=
  let word := bytes.map (fun b => b.val)
  if bytes.length ≠ 14 ∨ bytes.any (fun b => b.fault) = true then .formatError
  else if (byteAt word 0).toNat / 16 ≠ 0xA then .formatError
  else if crc16 (word.take 11) ≠ BitVec.ofNat 16 ((byteAt word 11).toNat * 256 + (byteAt word 12).toNat) then .crcFail
  else if held ≥ 8 then .overrun
  else .framesIn

theorem bitsOf_high (b : Byte) : bitsOf b 7 4 = b.toNat / 16 := by
  have := b.isLt
  show b.toNat / 16 % 16 = b.toNat / 16
  omega

/-- The word gathered from bytes is judged as the bytes are. -/
theorem judgeWord_gathered (bytes : List RxByte) (held : Nat) :
    judgeWord (bytes.foldl Assembling.push {}) held = judgeBytes bytes held := by
  have hcount : min 15 bytes.length ≠ 14 ↔ bytes.length ≠ 14 := by omega
  rw [foldl_push_empty]
  simp only [judgeWord, judgeBytes, hcount, bitsOf_high, Config.fifoDepth]
  by_cases hlen : bytes.length = 14
  · have htake : (bytes.map (fun b => b.val)).take 14 = bytes.map (fun b => b.val) :=
      List.take_of_length_le (by simp [hlen])
    have hcrc (word : List Byte) (h : word.length = 14) : airCrcMatches word = false
        ↔ crc16 (word.take 11) ≠ BitVec.ofNat 16 ((byteAt word 11).toNat * 256 + (byteAt word 12).toNat) := by
      rw [airCrcMatches, beq_eq_false_iff_ne, fieldAt_two (by omega), Nat.mul_comm]
    simp only [htake, hcrc _ (by simp [hlen] : (bytes.map (fun b => b.val)).length = 14), ge_iff_le]
    congr
  · simp [hlen]

/-- A judged word that joins the FIFO has all of its bytes. -/
theorem judgeBytes_framesIn_length {bytes : List RxByte} {held : Nat} (h : judgeBytes bytes held = .framesIn) :
    bytes.length = 14 := by
  by_contra hlen
  simp [judgeBytes, hlen] at h

/-- Settles O20: the bytes gathered into the empty word, and the word judged. -/
theorem arrivingWordIsJudged : Obligations.ArrivingWordIsJudged := by
  intro s ch bytes hs he hr hw hne c word k
  have hk : judgeWord (bytes.foldl Assembling.push {}) c.fifo.length = k := judgeWord_gathered bytes _
  have hcount : (bytes.foldl Assembling.push {}).count ≠ 0 := by
    have := List.length_pos_of_ne_nil hne
    rw [foldl_push_empty]
    show min 15 bytes.length ≠ 0
    omega
  have hword : k = .framesIn → (bytes.foldl Assembling.push {}).bytes = word := fun h => by
    rw [foldl_push_empty]
    exact List.take_of_length_le (by simp [judgeBytes_framesIn_length h])
  have hgather : onChannel ch (fun c => bytes.foldl Channel.byte c) s
      = { s with channels := s.channels.set ch { c with word := bytes.foldl Assembling.push {} } } := by
    rw [onChannel, foldl_byte_assembling hr, hw]
  have hfifo : (if k = .framesIn then c.fifo ++ [(bytes.foldl Assembling.push {}).bytes] else c.fifo)
      = if k = .framesIn then c.fifo ++ [word] else c.fifo := by
    split
    · rename_i h; rw [hword h]
    · rfl
  rw [exec, execChannelWordArrival, if_pos (rxEnable_iff.2 ⟨hs, he⟩), hgather, channelGap_assembling (by simpa using hr),
    if_neg (by simpa using hcount)]
  simp only [wordArrival, get_set_same, set_set, hk, hfifo, raise]
  rw [show c.word = {} from hw]
  by_cases ho : k = .overrun
  · rw [if_pos ho, if_pos ho]
  · rw [if_neg ho, if_neg ho]

/-! ## The rotation of the takes (R65, R66) -/

/-- The channel after the pointer that is the first to hold a word is the one served. -/
theorem nextChannel_first {s : State} {i : Fin 4}
    (hbefore : ∀ j : Fin 4, j < i → (s.channels.get (s.rotation + 1 + j)).fifo = [])
    (hi : (s.channels.get (s.rotation + 1 + i)).fifo ≠ []) : s.nextChannel = some (s.rotation + 1 + i) := by
  have horder : rotationOrder s.rotation = (List.finRange 4).map (fun j => s.rotation + 1 + j) := by
    generalize s.rotation = p
    revert p
    decide
  rw [State.nextChannel, horder, List.find?_map, Option.map_eq_some_iff]
  refine ⟨i, ?_, rfl⟩
  rw [List.find?_eq_some_iff_getElem]
  refine ⟨by simpa using hi, i.val, by simp, by simp, fun j hj => ?_⟩
  have := hbefore ⟨j, by omega⟩ hj
  simp [this]

/-- With every FIFO empty no channel is served. -/
theorem nextChannel_eq_none {s : State} (h : ∀ ch, (s.channels.get ch).fifo = []) : s.nextChannel = none := by
  simp [State.nextChannel, h]

/-- The state in which a taken word is matched: the word off its FIFO and the pointer at its channel (R66). -/
def afterTaking (ch : Fin 4) (s : State) : State :=
  { onChannel ch (fun c => { c with fifo := c.fifo.tail }) s with rotation := ch }

/-- A take made: the head word of the channel served is matched (R66). -/
theorem execTake_made {s : State} {ch : Fin 4} {word : List Byte} {rest : List (List Byte)} (hs : s.listens)
    (hch : s.nextChannel = some ch) (hf : (s.channels.get ch).fifo = word :: rest) :
    execTake s = .next (matchWord ch (airWordOf word) (afterTaking ch s)) := by
  have hhead : (s.channels.get ch).fifo.headD [] = word := by rw [hf]; rfl
  rw [execTake, if_pos (awake_of_listens hs), hch]
  simp only [hhead]
  rfl

/-- A word that meets no record is counted, and changes nothing else (R69, R70). -/
theorem matchWord_unmet {ch : Fin 4} {w : AirWord} {s : State}
    (h : s.route.state ≠ .active ∨ s.lookup w.meterId = none) :
    matchWord ch w s = countOn ch (if s.route.state = .active then .unknown else .routeInactive) s := by
  unfold matchWord
  split
  · rename_i ha
    rw [(h.resolve_left (not_not_intro ha))]
  · rfl

/-- Settles O22: the channel that the rotation gives, and the two ways in which its word meets no record. -/
theorem takeByRotation : Obligations.TakeByRotation := by
  refine fun s hs => ⟨fun h => ?idle, fun i word rest hbefore hf hmeets => ?made⟩
  case idle =>
    show execTake s = .next s
    rw [execTake, if_pos (awake_of_listens hs), nextChannel_eq_none h]
  case made =>
    have hch := nextChannel_first hbefore (by simp [hf])
    refine (execTake_made hs hch hf).trans ?_
    rw [matchWord_unmet (by exact hmeets)]
    simp only [afterTaking, countOn, onChannel, get_set_same, set_set, hf, List.tail_cons]

/-! ## The counters (R59) -/

theorem value_raise (c : Stats) (k j : Counter) :
    (c.raise k).value j = if j = k then min 65535 (c.value j + 1) else c.value j := by
  cases k <;> cases j <;> simp only [Stats.raise, Stats.value, satInc_eq_min, reduceCtorEq, if_true, if_false] <;> rfl

/-! ## The tests of a taken word (R71 to R77) -/

section
variable {w : AirWord} {r : Record} {m : Nat}

theorem verdictOf_kindMismatch (h : w.kind ≠ r.kind) : verdictOf w r m = .kindMismatch := if_pos h

theorem verdictOf_invalid (h : w.kind = r.kind) (hi : w.invalid = true) : verdictOf w r m = .invalidReading := by
  rw [verdictOf, if_neg (not_not_intro h), if_pos hi]

theorem verdictOf_badReading (h : w.kind = r.kind) (hi : w.invalid = false) (hm : m ≤ w.value) :
    verdictOf w r m = .badReading := by
  rw [verdictOf, if_neg (not_not_intro h), if_neg (by simp [hi]), if_pos hm]

theorem verdictOf_sequence (h : w.kind = r.kind) (hi : w.invalid = false) (hm : w.value < m) :
    verdictOf w r m = sequenceVerdict w r.reading := by
  rw [verdictOf, if_neg (not_not_intro h), if_neg (by simp [hi]), if_neg (Nat.not_le.2 hm)]

end

/-- The sequence difference of R74, modulo 256. -/
def seqDiff (w : AirWord) (x : Reading) : Nat := (w.seq.toNat + 256 - x.seq.toNat) % 256

/-- The sequence test by the difference (R74, Table 4-2). -/
theorem sequenceVerdict_some (w : AirWord) (x : Reading) :
    sequenceVerdict w (some x)
      = if seqDiff w x = 0 then (if w.value = x.value then .repeats else .conflict)
        else if seqDiff w x ≤ 127 then .accepted false
        else if w.seq.toNat ≤ 3 then .accepted true
        else .stale := by
  have hd : (w.seq - x.seq).toNat = seqDiff w x := by
    have := x.seq.isLt
    rw [BitVec.toNat_sub, seqDiff]
    congr 1
    omega
  simp only [sequenceVerdict, hd]

/-- The four indications stand in the latched set as in the status byte (R72). -/
theorem indications_getLsbD (w : AirWord) (i : Nat) :
    w.indications.getLsbD i = (decide (i < 4) && w.status.getLsbD i) := by
  have h : w.indications = (w.status.extractLsb' 0 4).setWidth 7 := by
    refine BitVec.eq_of_toNat_eq ?_
    rw [AirWord.indications, BitVec.toNat_ofNat, BitVec.toNat_setWidth, BitVec.extractLsb'_toNat,
      Nat.shiftRight_zero, bitsOf, Nat.pow_zero, Nat.div_one]
  rw [h, BitVec.getLsbD_setWidth, BitVec.getLsbD_extractLsb', Nat.zero_add]
  by_cases hi : i < 4
  · simp [hi]; omega
  · simp [hi]

/-! ## The smoothed signal (R81) -/

/-- A step of at most the whole difference, truncated toward zero, stays between the two ends. -/
theorem tdiv_step_between {a d : Int} (ha : 0 ≤ a) (ha' : a ≤ 32) :
    (0 ≤ d → 0 ≤ Int.tdiv (a * d) 32 ∧ Int.tdiv (a * d) 32 ≤ d)
    ∧ (d ≤ 0 → d ≤ Int.tdiv (a * d) 32 ∧ Int.tdiv (a * d) 32 ≤ 0) := by
  have forward {e : Int} (he : 0 ≤ e) : 0 ≤ Int.tdiv (a * e) 32 ∧ Int.tdiv (a * e) 32 ≤ e := by
    have hpos : 0 ≤ a * e := Int.mul_nonneg ha he
    have hle : a * e ≤ 32 * e := Int.mul_le_mul_of_nonneg_right ha' he
    rw [Int.tdiv_eq_ediv_of_nonneg hpos]
    omega
  refine ⟨forward, fun hd => ?_⟩
  have h := forward (Int.neg_nonneg.2 hd)
  rw [Int.mul_neg, Int.neg_tdiv] at h
  omega

/-- The smoothed value after a further word, and that it never passes the RSSI (R81). -/
theorem smoothStep_spec (smoothed rssi : Nat) {k : Nat} (hk : k ≤ 31) :
    (smoothStep smoothed k rssi : Int) = smoothed + Int.tdiv (((k : Int) + 1) * ((rssi : Int) - smoothed)) 32
    ∧ min smoothed rssi ≤ smoothStep smoothed k rssi ∧ smoothStep smoothed k rssi ≤ max smoothed rssi := by
  obtain ⟨hup, hdown⟩ := tdiv_step_between (a := (k : Int) + 1) (d := (rssi : Int) - smoothed) (by omega) (by omega)
  rw [smoothStep]
  rcases Int.le_total 0 ((rssi : Int) - smoothed) with hd | hd
  · have := hup hd
    omega
  · have := hdown hd
    omega

/-- Settles O23: each test's verdict with what it latches, then the counters and the signal. -/
theorem wordsAreTestedInOrder : Obligations.WordsAreTestedInOrder := by
  refine ⟨fun w r m => ⟨fun hk => ?kind, fun hk hi => ?invalid, fun hk hi hm => ?bad,
      fun hk hi hm => ⟨fun hx => ?first, fun x hx => ?seq⟩, ?indications⟩,
    ⟨rfl, rfl, rfl, rfl, rfl, rfl, fun _ => rfl⟩, value_raise, fun k rssi => ⟨rfl, fun g hk => ?signal⟩⟩
  case kind => rw [verdictOf_kindMismatch hk]; exact ⟨rfl, rfl⟩
  case invalid => rw [verdictOf_invalid hk hi]; exact ⟨rfl, rfl⟩
  case bad => rw [verdictOf_badReading hk hi hm]; exact ⟨rfl, rfl⟩
  case first => rw [verdictOf_sequence hk hi hm, hx]; exact ⟨rfl, rfl⟩
  case seq =>
    intro d
    have hd : seqDiff w x = d := rfl
    rw [verdictOf_sequence hk hi hm, hx, sequenceVerdict_some, hd]
    refine ⟨fun h0 hv => ?_, fun h0 hv => ?_, fun h1 h127 => ?_, fun h128 hseq => ?_, fun h128 hseq => ?_⟩
    · rw [if_pos h0, if_pos hv]; exact ⟨rfl, rfl⟩
    · rw [if_pos h0, if_neg hv]; exact ⟨rfl, rfl⟩
    · rw [if_neg (by omega), if_pos h127]; exact ⟨rfl, rfl⟩
    · rw [if_neg (by omega), if_neg (by omega), if_pos hseq]; exact ⟨rfl, rfl⟩
    · rw [if_neg (by omega), if_neg (by omega), if_neg (by omega)]; exact ⟨rfl, rfl⟩
  case indications =>
    have h := indications_getLsbD w
    exact ⟨h 0, h 1, h 2, h 3, h 4, h 5, h 6⟩
  case signal => exact ⟨rfl, smoothStep_spec g.smoothed rssi hk⟩

end Sys2Proof.Machine

/-! PROOFS. The Evaluation Unit's events (R91, R101, R102, R108 to R111) and a take on its record (R67, R78 to R84). -/

namespace Sys2Proof.Machine

/-! ## What the laws say of a slot -/

/-- The laws of a record, by its slot (R2, R3). -/
theorem State.Laws.record_at {s : State} (hs : s.Laws) {slot : Nat} {r : Record} (h : s.recordAt slot = some r) :
    r.inRange (modulusOf (s.store.live.profileAt r.profile).digits) ∧ r.holdsByState ∧ s.route.state.allows r.state :=
  hs.record _ (mem_of_tableGet h)

/-- A slot is in the queue exactly when its record is QUEUED (R87). -/
theorem State.Laws.mem_queue_iff {s : State} (hs : s.Laws) {n : Nat} :
    n ∈ s.eval.queue ↔ ∃ r, s.recordAt n = some r ∧ r.eval = .queued := by
  obtain ⟨-, hmem, hqueued⟩ := hs.queue
  refine ⟨fun h => ?_, fun ⟨r, hr, he⟩ => hqueued _ (mem_of_tableGet hr) he⟩
  obtain ⟨r, hr, he⟩ := Option.any_eq_true _ _ |>.1 (hmem n h)
  exact ⟨r, hr, of_decide_eq_true he⟩

/-- A slot is on the chain exactly when its record is FLAGGED (R107). -/
theorem State.Laws.mem_chain_iff {s : State} (hs : s.Laws) {n : Nat} :
    n ∈ s.chain ↔ ∃ r, s.recordAt n = some r ∧ r.state = .flagged := by
  obtain ⟨-, hmem, hflagged⟩ := hs.chain
  refine ⟨fun h => ?_, fun ⟨r, hr, he⟩ => hflagged _ (mem_of_tableGet hr) he⟩
  obtain ⟨r, hr, he⟩ := Option.any_eq_true _ _ |>.1 (hmem n h)
  exact ⟨r, hr, of_decide_eq_true he⟩

/-- A segment with a member in EXPECTED has that member unread and owes a reading (R42, R124). -/
theorem State.Laws.owes_expected {s : State} (hs : s.Laws) {slot : Nat} {r : Record} (h : s.recordAt slot = some r)
    (hx : r.state = .expected) :
    (s.segAt r.segment).read < (s.segAt r.segment).members ∧ (s.segAt r.segment).state.owes = true := by
  obtain ⟨-, hunread, howes⟩ := hs.counts_record h
  obtain ⟨⟨-, -, -, hseg, -⟩, -, hallows⟩ := hs.record_at h
  obtain ⟨hfits, -, -, -⟩ := hs.segState _ (Nat.lt_succ_of_le hseg)
  refine ⟨hunread hx, howes hx fun hc => ?_⟩
  have hroute : s.route.state ≠ .closed := fun hr => by
    rw [hr] at hallows
    exact hallows hx
  have := hfits hroute
  rw [SegEntry.fits, hc] at this
  exact this

/-! ## EVALUATION_START (R91) -/

/-- An evaluation that can start takes the head of the queue with its snapshot. -/
theorem execEvaluationStart_made {s : State} {slot : Nat} {rest : List Nat} {r : Record} {x : Reading} (hs : s.listens)
    (hu : s.eval.running = none) (hq : s.eval.queue = slot :: rest) (hr : s.recordAt slot = some r)
    (hx : r.reading = some x) :
    execEvaluationStart s = .next { setRecord slot { r with eval := .running } s with
      eval := { running := some { slot := slot, snap := snapshotOf r x (s.store.live.profileAt r.profile), departed := false },
                queue := rest } } := by
  simp only [execEvaluationStart, awake_of_listens hs, hu, hq, hr, hx]

/-- An evaluation that cannot start is not made (log entry 6). -/
theorem execEvaluationStart_notMade {s : State} (h : ¬ s.listens ∨ s.eval.running ≠ none ∨ s.eval.queue = []) :
    execEvaluationStart s = .next s := by
  unfold execEvaluationStart
  split
  · rename_i ha hu hq
    rcases h with h | h | h
    · exact absurd ((listens_iff s).2 ha) h
    · exact absurd hu h
    · simp [hq] at h
  · rfl

/-- Under the laws the record at the head of the queue is QUEUED and has a reading (R87, R88). -/
theorem State.Laws.queue_head {s : State} (hs : s.Laws) {slot : Nat} {rest : List Nat} (hq : s.eval.queue = slot :: rest) :
    ∃ r x, s.recordAt slot = some r ∧ r.eval = .queued ∧ r.reading = some x := by
  obtain ⟨r, hr, he⟩ := hs.mem_queue_iff.1 (hq ▸ List.mem_cons_self : slot ∈ s.eval.queue)
  obtain ⟨-, ⟨-, -, hnone, -⟩, -⟩ := hs.record_at hr
  cases hx : r.reading with
  | none => rw [hnone.2 hx] at he; cases he
  | some x => exact ⟨r, x, hr, he, hx⟩

/-- Settles O25: the conditions of a start, and the record that the laws give at the head of the queue. -/
theorem evaluationStartTakesTheHead : Obligations.EvaluationStartTakesTheHead := by
  refine fun s => ⟨execEvaluationStart_notMade, fun slot rest hlaws hs hu hq => ?_⟩
  obtain ⟨r, x, hr, he, hx⟩ := hlaws.queue_head hq
  exact ⟨r, x, hr, he, hx, execEvaluationStart_made hs hu hq hr hx⟩

/-! ## EVALUATION_COMPLETION (R101, R102, R108) -/

theorem execEvaluationCompletion_idle {s : State} (h : s.eval.running = none) : execEvaluationCompletion s = .next s := by
  rw [execEvaluationCompletion, h]

/-- The result of a computation whose record departed, is not RUNNING or changed is dropped (R101). -/
theorem execEvaluationCompletion_drops {s : State} {c : Computation} (h : s.eval.running = some c)
    (hd : c.departed = true ∨ s.recordAt c.slot = none
      ∨ ∃ r, s.recordAt c.slot = some r ∧ (r.eval ≠ .running ∨ r.generation ≠ c.snap.generation)) :
    execEvaluationCompletion s = .next { s with eval.running := none } := by
  have hrec : ({ s with eval.running := none } : State).recordAt c.slot = s.recordAt c.slot := rfl
  simp only [execEvaluationCompletion, h, hrec]
  by_cases hdep : c.departed = true
  · rw [if_pos hdep]
  · rw [if_neg hdep]
    rcases hd with hd | hd | ⟨r, hr, hne⟩
    · exact absurd hd hdep
    · rw [hd]
    · rw [hr]
      exact if_neg fun ⟨he, hg⟩ => hne.elim (· he) (· hg)

/-- The result of any other computation is written (R102). -/
theorem execEvaluationCompletion_writes {s : State} {c : Computation} {r : Record} (h : s.eval.running = some c)
    (hd : c.departed = false) (hr : s.recordAt c.slot = some r) (he : r.eval = .running)
    (hg : r.generation = c.snap.generation) :
    execEvaluationCompletion s
      = .next (writeResult c.slot c.snap.result c.snap.threshold r { s with eval.running := none }) := by
  have hrec : ({ s with eval.running := none } : State).recordAt c.slot = some r := hr
  simp only [execEvaluationCompletion, h, hrec, hd, Bool.false_eq_true, if_false]
  exact if_pos ⟨he, hg⟩

/-- The flag decision (R108 to R111). -/
theorem flags_iff {threshold : Nat} {res : Result} {r : Record} :
    flags threshold res r = true ↔ threshold ≠ 0 ∧ threshold ≤ res.score
      ∧ (r.state = .read
          ∨ (r.state = .reviewed
              ∧ ∃ i, i < 10 ∧ res.causes.getLsbD i = true ∧ (r.reviewedCauses.getD 0#10).getLsbD i = false)) := by
  have hfresh : res.causes &&& ~~~ (r.reviewedCauses.getD 0#10) ≠ 0#10
      ↔ ∃ i, i < 10 ∧ res.causes.getLsbD i = true ∧ (r.reviewedCauses.getD 0#10).getLsbD i = false := by
    rw [and_ne_zero_iff]
    refine exists_congr fun i => and_congr_right fun hi => and_congr_right fun _ => ?_
    simp only [BitVec.getLsbD_not, hi, decide_true, Bool.true_and, Bool.not_eq_true']
  rw [flags, Bool.and_eq_true, Bool.and_eq_true, decide_eq_true_eq, decide_eq_true_eq, and_assoc]
  refine and_congr_right fun _ => and_congr_right fun _ => ?_
  cases r.state <;> simp [hfresh]

/-- The record with a result written, and superseded when carried (R5, R102). -/
def Record.withResult (r : Record) (res : Result) : Record :=
  { r with
    result := some res
    eval := .done
    upload := if r.upload.isCarried = true then .carried r.upload.blockCode true else r.upload }

/-- A result written on a record that is not flagged. -/
theorem writeResult_unflagged {slot threshold : Nat} {res : Result} {r : Record} {s : State}
    (h : flags threshold res r = false) : writeResult slot res threshold r s = setRecord slot (r.withResult res) s := by
  simp only [writeResult, h, supersede_eq, Bool.false_eq_true, if_false]
  rfl

/-- A result written on a record that is flagged: the chain, its segment's flagged count and the cause (R109, R117, R118). -/
theorem writeResult_flagged {slot threshold : Nat} {res : Result} {r : Record} {s : State}
    (h : flags threshold res r = true) :
    writeResult slot res threshold r s
      = { setSeg r.segment { s.segAt r.segment with flagged := (s.segAt r.segment).flagged + 1 }
            (setRecord slot { r.withResult res with state := .flagged } s) with
          chain := s.chain ++ [slot]
          port.causes := s.port.causes ||| attFlagAdded } := by
  simp only [writeResult, h, supersede_eq, if_true]
  rfl

/-- Settles O26: the result dropped, or written with the flag decision. -/
theorem resultIsDroppedOrWritten : Obligations.ResultIsDroppedOrWritten := by
  refine ⟨fun s => ⟨execEvaluationCompletion_idle, fun c => execEvaluationCompletion_drops⟩,
    fun s c r hc hd hr he hg => ?_⟩
  intro res flagged r'
  have hwrites := execEvaluationCompletion_writes hc hd hr he hg
  refine ⟨fun hf => ?_, fun hf => ?_⟩
  · have hno : flags c.snap.threshold res r = false := Bool.eq_false_iff.2 fun h => hf (flags_iff.1 h)
    exact hwrites.trans (by rw [writeResult_unflagged hno]; rfl)
  · exact hwrites.trans (by rw [writeResult_flagged (flags_iff.2 hf)]; rfl)

/-! ## A member's first accepted reading (R79, R125) -/

/-- A segment that heard an unread member: its read count, and its completion when that was the last (R79, R125, R146, R200). -/
def SegmentHeard (n : Nat) (completes : Prop) [Decidable completes] (s t : State) : Prop :=
  let e := s.segAt n
  t = { s with
      seg := { s.seg with
        table := t.seg.table
        revisit := if completes then s.seg.revisit.filter (fun m => m != n) else s.seg.revisit }
      port.causes := if completes then s.port.causes ||| attSegmentComplete else s.port.causes
      lines.pulse := if completes then 5 else s.lines.pulse }
  ∧ t.segAt n = (if completes then { e with read := e.read + 1, state := .complete, deadline := none }
      else { e with read := e.read + 1 })
  ∧ ∀ m, m ≠ n → t.segAt m = s.segAt m

/-- A first reading of a member that the segment owes. -/
theorem segRead_hears {n : Nat} {s : State} {completes : Prop} [Decidable completes]
    (hcompletes : completes ↔ (s.segAt n).read + 1 = (s.segAt n).members)
    (hu : (s.segAt n).read < (s.segAt n).members) (ho : (s.segAt n).state.owes = true) :
    SegmentHeard n completes s (segRead n s) := by
  have hread : (setSeg n { s.segAt n with read := (s.segAt n).read + 1 } s).segAt n
      = { s.segAt n with read := (s.segAt n).read + 1 } := by rw [segAt_setSeg, if_pos rfl]
  rcases completeIfRead_cases n (setSeg n { s.segAt n with read := (s.segAt n).read + 1 } s) with
    ⟨-, hle, -, h⟩ | ⟨hnot, h⟩
  · rw [hread] at hle
    have hc : completes := hcompletes.2 (Nat.le_antisymm hu hle)
    have heq : segRead n s = _ := h
    simp only [SegmentHeard, heq, if_pos hc]
    exact ⟨rfl, by simp [segAt_completeSeg], fun m hm => by simp [segAt_completeSeg, hm]⟩
  · rw [hread] at hnot
    have hc : ¬ completes := fun hc => hnot ⟨Nat.zero_lt_of_lt hu, (hcompletes.1 hc).ge, ho⟩
    have heq : segRead n s = _ := h
    simp only [SegmentHeard, heq, if_neg hc]
    exact ⟨rfl, hread, fun m hm => by simp [hm]⟩

/-! ## A take on its record (R67) -/

/-- The record after a take, with its evaluation requested when the take bumps it (R78 to R84, R89). -/
def takenRecord (w : AirWord) (v : Verdict) (ch : Fin 4) (clock k : Nat) (r : Record) : Record :=
  if takeBumps w v r then { recordAfterTake w v ch clock k r with eval := .queued } else recordAfterTake w v ch clock k r

/-- The roster's and the queue's part of a take. -/
def takeRecord (ch : Fin 4) (w : AirWord) (slot : Nat) (r : Record) (s : State) : State :=
  let p := s.store.live.profileAt r.profile
  let v := verdictOf w r (modulusOf p.digits)
  { setRecord slot (takenRecord w v ch s.route.clock p.smoothing r) (countOn ch v.counter s) with
    eval.queue := if takeBumps w v r = true ∧ r.eval ≠ .queued then s.eval.queue ++ [slot] else s.eval.queue }

theorem recordAfterTake_eval (w : AirWord) (v : Verdict) (ch : Fin 4) (clock k : Nat) (r : Record) :
    (recordAfterTake w v ch clock k r).eval = r.eval := by
  simp only [recordAfterTake, supersede_eq]
  split <;> rfl

/-- A take is the record's part, and the segment's part at a first accepted reading. -/
theorem matchRecord_eq (ch : Fin 4) (w : AirWord) (slot : Nat) (r : Record) (s : State) :
    matchRecord ch w slot r s
      = if (verdictOf w r (modulusOf (s.store.live.profileAt r.profile).digits)).isAccepted ∧ r.state = .expected then
          segRead r.segment (takeRecord ch w slot r s)
        else takeRecord ch w slot r s := by
  have hrecord : takeRecord ch w slot r s
      = (let p := s.store.live.profileAt r.profile
         let v := verdictOf w r (modulusOf p.digits)
         let u := setRecord slot (recordAfterTake w v ch s.route.clock p.smoothing r) (countOn ch v.counter s)
         if takeBumps w v r then requestEval slot u else u) := by
    simp only [takeRecord, takenRecord, requestEval_setRecord, recordAfterTake_eval]
    by_cases hb : takeBumps w (verdictOf w r (modulusOf (s.store.live.profileAt r.profile).digits)) r = true
    · by_cases hq : r.eval = .queued
      · rw [if_pos hb, if_neg (fun h => h.2 hq), if_pos hb, if_pos hq]
        rfl
      · rw [if_pos hb, if_pos ⟨hb, hq⟩, if_pos hb, if_neg hq]
        rfl
    · rw [if_neg hb, if_neg (fun h => hb h.1), if_neg hb]
      rfl
  rw [hrecord]
  rfl

/-- A word that meets its record is matched with it (R67 to R70). -/
theorem matchWord_meets {ch : Fin 4} {w : AirWord} {s : State} {slot : Nat} {r : Record} (ha : s.route.state = .active)
    (hl : s.lookup w.meterId = some slot) (hr : s.recordAt slot = some r) :
    matchWord ch w s = matchRecord ch w slot r s := by
  simp only [matchWord, if_pos ha, hl, hr]

theorem Verdict.isAccepted_iff {v : Verdict} : v.isAccepted = true ↔ v = .accepted false ∨ v = .accepted true := by
  cases v <;> simp [Verdict.isAccepted]

theorem Verdict.isHeard_iff {v : Verdict} :
    v.isHeard = true ↔ (v = .accepted false ∨ v = .accepted true) ∨ v = .repeats := by
  cases v <;> simp [Verdict.isHeard]

theorem takeBumps_iff {w : AirWord} {v : Verdict} {r : Record} :
    takeBumps w v r = true ↔ (v = .accepted false ∨ v = .accepted true)
      ∨ (r.latched ||| latchesOf w v ≠ r.latched ∧ r.reading.isSome = true) := by
  rw [takeBumps, Bool.or_eq_true, Bool.and_eq_true, decide_eq_true_eq, Verdict.isAccepted_iff]

/-- The fields of a record after a take, by whether its word was accepted, was heard, and bumps the record. -/
theorem takenRecord_eq {w : AirWord} {v : Verdict} {r : Record} (ch : Fin 4) (clock k : Nat) {accepted heard bumps : Prop}
    [Decidable accepted] [Decidable heard] [Decidable bumps] (ha : v.isAccepted = true ↔ accepted)
    (hh : v.isHeard = true ↔ heard) (hb : takeBumps w v r = true ↔ bumps) :
    takenRecord w v ch clock k r = { r with
      latched := r.latched ||| latchesOf w v
      hearCount := if heard then min 255 (r.hearCount + 1) else r.hearCount
      signal := if heard then some (signalAfter r.signal k w.rssi) else r.signal
      reading := if accepted then some { value := w.value, seq := w.seq, tRead := clock, channel := ch } else r.reading
      state := if accepted ∧ r.state = .expected then .read else r.state
      generation := if bumps then r.generation + 1#8 else r.generation
      eval := if bumps then .queued else r.eval
      upload := if bumps ∧ r.upload.isCarried = true then .carried r.upload.blockCode true else r.upload } := by
  have hfirst : (v.isAccepted = true ∧ r.state = .expected) ↔ (accepted ∧ r.state = .expected) := and_congr_left' ha
  simp only [takenRecord, recordAfterTake, supersede_eq, satInc_eq_min, if_congr ha rfl rfl, if_congr hh rfl rfl,
    if_congr hfirst rfl rfl]
  by_cases h : bumps
  · simp only [if_pos (hb.2 h), h, true_and, if_true, Record.bump]
    congr
  · simp only [if_neg (mt hb.1 h), h, false_and, if_false]

/-- Settles O24: the record's part by `takenRecord_eq`, and the segment's part by `segRead_hears` where the word is the first
reading of its record. -/
theorem takeActsOnItsRecord : Obligations.TakeActsOnItsRecord := by
  intro s ch word rest slot r hlaws hs hactive hch hfifo hlookup hr w p v accepted heard latched bumps first e completes
  have ha : v.isAccepted = true ↔ accepted := Verdict.isAccepted_iff
  have hb : takeBumps w v r = true ↔ bumps := takeBumps_iff
  have hrecord := takenRecord_eq (r := r) (w := w) ch s.route.clock p.smoothing ha Verdict.isHeard_iff hb
  have htake : exec .take s = .next (matchRecord ch w slot r (afterTaking ch s)) := by
    exact (execTake_made hs hch hfifo).trans
      (congrArg _ (matchWord_meets (s := afterTaking ch s) hactive hlookup hr))
  have hchannels : (takeRecord ch w slot r (afterTaking ch s)).channels = s.channels.set ch
      { s.channels.get ch with fifo := rest, stats := (s.channels.get ch).stats.raise v.counter } := by
    have htaken : (afterTaking ch s).channels.get ch
        = { s.channels.get ch with fifo := (s.channels.get ch).fifo.tail } := get_set_same ..
    have hrest : (s.channels.get ch).fifo.tail = rest := by rw [hfifo, List.tail_cons]
    rw [← hrest]
    show (afterTaking ch s).channels.set ch _ = _
    rw [htaken]
    exact set_set ..
  have heval : (takeRecord ch w slot r (afterTaking ch s)).eval
      = { s.eval with queue := if bumps ∧ r.eval ≠ .queued then s.eval.queue ++ [slot] else s.eval.queue } := by
    rw [← if_congr (and_congr_left' hb) rfl rfl]
    rfl
  have hat : (takeRecord ch w slot r (afterTaking ch s)).recordAt slot
      = some (takenRecord w v ch s.route.clock p.smoothing r) := recordAt_setRecord_same _ _ _
  have hother (n : Nat) (hn : n ≠ slot) : (takeRecord ch w slot r (afterTaking ch s)).recordAt n = s.recordAt n :=
    recordAt_setRecord_other _ _ hn
  rw [hrecord] at hat
  refine ⟨_, htake, ?_⟩
  rw [matchRecord_eq]
  by_cases hf : first
  · obtain ⟨hunread, howes⟩ := hlaws.owes_expected hr hf.2
    have hcompletes : completes ↔ e.read + 1 = e.members := ⟨And.right, fun h => ⟨hf, h⟩⟩
    obtain ⟨hframe, hseg, hsegOther⟩ :=
      segRead_hears (s := takeRecord ch w slot r (afterTaking ch s)) hcompletes hunread howes
    rw [if_pos ⟨ha.2 hf.1, hf.2⟩]
    generalize segRead r.segment (takeRecord ch w slot r (afterTaking ch s)) = t at *
    refine ⟨?_, fun n hn => ?_, ?_, ?_, ?_, ?_, ?_, hsegOther, ?_⟩
    · rw [hframe]; exact hat
    · rw [hframe]; exact hother n hn
    · rw [hframe]; rfl
    · rw [hframe]; exact heval
    · rw [hframe]; rfl
    · rw [hframe]; exact hchannels
    · rw [hseg, if_pos hf]; rfl
    · rw [hframe]
      exact ⟨rfl, rfl, rfl, rfl, rfl, rfl, rfl, rfl, rfl, rfl, rfl, rfl, rfl, rfl, rfl⟩
  · have hc : ¬ completes := fun h => hf h.1
    rw [if_neg fun h => hf ⟨ha.1 h.1, h.2⟩]
    refine ⟨hat, hother, rfl, heval, rfl, hchannels, ?_, fun _ _ => rfl, ?_, rfl, rfl, ?_, ?_, rfl, rfl, rfl, rfl, rfl,
      rfl, rfl, rfl, rfl, rfl⟩
    · rw [if_neg hc, if_neg hf]; rfl
    all_goals rw [if_neg hc]; rfl

end Sys2Proof.Machine

/-! PROOFS. The laws of a running part, stated slot by slot and segment by segment, and tied to `State.Laws`: the form in which
each command is shown to keep them. -/

namespace Sys2Proof.Machine

/-! ## The roster (R1, R7, R10) -/

/-- The stores of the roster in canonical form, no identifier twice, and the Meter Index with exactly one way for every
occupied slot, in the bucket of its identifier. -/
structure Roster.Sound (ro : Roster) : Prop where
  rising      : tableRising ro.slots = true
  keys        : ∀ e ∈ ro.slots, e.1 < 8192
  indexRising : tableRising ro.index = true
  indexKeys   : ∀ w ∈ ro.index, w.1 < 16384
  oneSlot     : ∀ n m q r, tableGet ro.slots n = some q → tableGet ro.slots m = some r → q.meterId = r.meterId → n = m
  oneWay      : ∀ n r, tableGet ro.slots n = some r → (ro.index.filter (fun w => w.2 == n)).length = 1
  wayNames    : ∀ w ∈ ro.index, ∃ r, tableGet ro.slots w.2 = some r ∧ w.1 / 8 = bucketOf r.meterId

/-! ## The records, with the queue, the running computation and the chain (R2, R3, R87, R88, R107) -/

/-- What the laws say of the record `r` in slot `n`. -/
structure RecordSound (route : RouteState) (live : Settings) (ev : EvalUnit) (chain : List Nat) (n : Nat) (r : Record) :
    Prop where
  inRange  : r.inRange (modulusOf (live.profileAt r.profile).digits)
  holds    : r.holdsByState
  allowed  : route.allows r.state
  queued   : n ∈ ev.queue ↔ r.eval = .queued
  flagged  : n ∈ chain ↔ r.state = .flagged
  running  : r.eval = .running → ∃ c, ev.running = some c ∧ c.slot = n ∧ c.departed = false
  done     : ∀ x, r.reading = some x → r.eval = .done → ∃ p : Profile, r.result = some (snapshotOf r x p).result
  snapshot : ∀ x, r.reading = some x → r.eval = .running → ∀ c, ev.running = some c → ∃ p : Profile, c.snap = snapshotOf r x p

/-- What the laws say of a running computation: its record is still under evaluation unless it departed, and its snapshot is
in the ranges of Table 5-4. -/
structure ComputationSound (get : Nat → Option Record) (c : Computation) : Prop where
  record   : c.departed = false → ∃ r, get c.slot = some r ∧ (r.eval = .running ∨ r.eval = .queued)
  digitsLow  : 4 ≤ c.snap.digits
  digitsHigh : c.snap.digits ≤ 9
  value    : c.snap.value < modulusOf c.snap.digits
  baseline : c.snap.baseline < modulusOf c.snap.digits

/-- Every record is sound, the queue and the chain hold occupied slots, each once, and so is the running computation. -/
structure RecordsSound (get : Nat → Option Record) (route : RouteState) (live : Settings) (ev : EvalUnit)
    (chain : List Nat) : Prop where
  each        : ∀ n r, get n = some r → RecordSound route live ev chain n r
  queueNodup  : ev.queue.Nodup
  queueSlots  : ∀ n ∈ ev.queue, ∃ r, get n = some r
  chainNodup  : chain.Nodup
  chainSlots  : ∀ n ∈ chain, ∃ r, get n = some r
  computation : ∀ c, ev.running = some c → ComputationSound get c

/-! ## The segments (R123, R124, R131, R142, R147, R148) -/

/-- How many of the records listed name segment `n` in a state that satisfies `p`. -/
def countIn (slots : List (Nat × Record)) (n : Nat) (p : RecState → Bool) : Nat :=
  (slots.filter (fun e => decide (e.2.segment = n) && p e.2.state)).length

/-- The Segment Table lists segments of the route alone, none of them empty, in ascending order. -/
def segsCanonical (table : List (Nat × SegEntry)) : Prop :=
  tableRising table = true ∧ ∀ e ∈ table, e.1 < 1024 ∧ e.2 ≠ {}

/-- The entry of a segment in a table. -/
def entryIn (table : List (Nat × SegEntry)) (n : Nat) : SegEntry := (tableGet table n).getD {}

/-- What the laws say of a segment's entry, in a route state, by its coverage and the records that name it. -/
structure EntrySound (route : RouteState) (covered : Bool) (count : (RecState → Bool) → Nat) (e : SegEntry) : Prop where
  members   : e.members = count (fun _ => true)
  read      : e.read = count (fun st => decide (st ≠ .expected))
  flagged   : e.flagged = count (fun st => decide (st = .flagged))
  fits      : route ≠ .closed → e.fits covered
  closed    : route = .closed → e.state = .closed ∨ (e.state = .vacant ∧ e.members = 0)
  deadline  : e.deadline.isSome = true ↔ e.state = .trailing
  visited   : covered = true → e.visited = true
  unvisited : route ≠ .active → route ≠ .closed → e.visited = false

/-- Every segment is sound, the Revisit List is that of the MISSED ones, and both sets of window values fit the route state. -/
structure SegmentsSound (seg : Segments) (route : RouteState) (slots : List (Nat × Record)) : Prop where
  canonical    : segsCanonical seg.table
  each         : ∀ n, n < 1024 → EntrySound route (seg.applied.covers n) (countIn slots n) (entryIn seg.table n)
  revisitNodup : seg.revisit.Nodup
  revisit      : ∀ n, n ∈ seg.revisit ↔ n < 1024 ∧ (entryIn seg.table n).state = .missed
  staged       : seg.staged.inRange
  applied      : seg.applied.inRange
  appliedZero  : route ≠ .active → seg.applied = {}
  stagedZero   : route ≠ .active → route ≠ .ready → seg.staged = {}

/-! ## The outstanding blocks (R167, R174) -/

/-- What the laws say of an entry of the Outstanding Table. -/
structure BlockSound (get : Nat → Option Record) (o : Outstanding) : Prop where
  nonempty : o.slots ≠ []
  most     : o.slots.length ≤ 16
  rising   : ascending o.slots = true
  tenths   : 1 ≤ o.tenths
  tenths'  : o.tenths ≤ 127
  carries  : ∀ n ∈ o.slots, ∃ r, get n = some r ∧ r.upload.isCarried = true ∧ r.upload.blockCode = o.block

/-- The counts of the Upload Engine are in range, and so is its cursor. -/
def Upload.counts (u : Upload) : Prop :=
  (∀ n ∈ u.cursor, n < 8192) ∧ u.sent ≤ 65535 ∧ u.retired ≤ 65535 ∧ u.returned ≤ 65535 ∧ u.timeouts ≤ 65535
  ∧ u.strays ≤ 65535 ∧ u.ignored ≤ 65535

/-- The Outstanding Table and the CARRIED records. The slots of `loose` are carried outside it: those of a block that has left
it, until the last of them has been dealt with. -/
structure BlocksSound (loose : List Nat) (u : Upload) (get : Nat → Option Record) (link : LinkState) : Prop where
  most     : u.table.length ≤ 4
  nodup    : (loose ++ u.table.flatMap (fun o => o.slots)).Nodup
  each     : ∀ o ∈ u.table, BlockSound get o
  carriers : ∀ n r, get n = some r → r.upload.isCarried = true → n ∈ loose ∨ ∃ o ∈ u.table, n ∈ o.slots
  loose    : ∀ n ∈ loose, ∃ r, get n = some r ∧ r.upload.isCarried = true
  idle     : u.state = .idle → u.table = []
  locked   : u.table ≠ [] → link = .locked
  busy     : u.state ≠ .idle → link = .locked ∨ link = .checking
  counts   : u.counts

/-! ## The whole part -/

/-- The laws of a part but for those of the power and of a held reset. -/
structure State.Sound (s : State) (loose : List Nat) : Prop where
  roster   : s.roster.Sound
  records  : RecordsSound s.recordAt s.route.state s.store.live s.eval s.chain
  segments : SegmentsSound s.seg s.route.state s.roster.slots
  route    : s.routeLaw
  blocks   : BlocksSound loose s.upload s.recordAt s.link.state
  tx       : s.txLaw
  link     : s.linkLaw
  channel  : s.channelLaw
  settings : s.settingsLaw
  port     : s.portLaw

/-- The laws of a part that has started and that RESET_N does not hold. With `loose = []` they are `State.Laws`. -/
structure State.Live (s : State) (loose : List Nat) : Prop extends s.Sound loose where
  listens  : s.listens

/-! ## From the laws -/

theorem any_iff {α : Type} {o : Option α} {p : α → Bool} : o.any p = true ↔ ∃ a, o = some a ∧ p a = true := by
  cases o <;> simp

theorem State.Laws.roster {s : State} (hs : s.Laws) : s.roster.Sound where
  rising := hs.tables.1
  keys := hs.tables.2.1
  indexRising := hs.tables.2.2.1
  indexKeys := hs.tables.2.2.2.1
  oneSlot n m q r hq hr h := hs.index.1 _ (mem_of_tableGet hq) _ (mem_of_tableGet hr) h
  oneWay n r h := hs.index.2.1 _ (mem_of_tableGet h)
  wayNames w hw := by
    obtain ⟨r, hr, hb⟩ := any_iff.1 (hs.index.2.2 w hw)
    exact ⟨r, hr, of_decide_eq_true hb⟩

theorem State.Laws.records {s : State} (hs : s.Laws) :
    RecordsSound s.recordAt s.route.state s.store.live s.eval s.chain where
  each n r hr := by
    obtain ⟨hrange, hholds, hallows⟩ := hs.record_at hr
    have hfresh := hs.fresh _ (mem_of_tableGet hr)
    refine ⟨hrange, hholds, hallows, ?_, ?_, fun he => ?_, fun x hx => (hfresh x hx).1, fun x hx => (hfresh x hx).2⟩
    · rw [hs.mem_queue_iff]; simp [hr]
    · rw [hs.mem_chain_iff]; simp [hr]
    · obtain ⟨c, hc, hcp⟩ := any_iff.1 (hs.running.1 _ (mem_of_tableGet hr) he)
      exact ⟨c, hc, by simpa using hcp⟩
  queueNodup := hs.queue.1
  queueSlots n hn := by
    obtain ⟨r, hr, -⟩ := hs.mem_queue_iff.1 hn
    exact ⟨r, hr⟩
  chainNodup := hs.chain.1
  chainSlots n hn := by
    obtain ⟨r, hr, -⟩ := hs.mem_chain_iff.1 hn
    exact ⟨r, hr⟩
  computation c hc := by
    obtain ⟨hrec, hd, hd', hv, hb⟩ := hs.running.2 c hc
    refine ⟨fun h => ?_, hd, hd', hv, hb⟩
    obtain ⟨r, hr, he⟩ := any_iff.1 (hrec h)
    exact ⟨r, hr, by simpa using he⟩

theorem State.Laws.segments {s : State} (hs : s.Laws) : SegmentsSound s.seg s.route.state s.roster.slots where
  canonical := hs.tables.2.2.2.2
  each n hn := by
    obtain ⟨hmembers, hread, hflagged⟩ := hs.segCount n hn
    obtain ⟨hfits, hclosed, hdeadline, hvisited⟩ := hs.segState n hn
    obtain ⟨-, -, -, -, hunvisited⟩ := hs.window
    refine ⟨hmembers, hread, hflagged, hfits, hclosed, hdeadline, hvisited, fun ha hc => ?_⟩
    unfold entryIn
    cases he : tableGet s.seg.table n with
    | none => rfl
    | some e => exact hunvisited ha hc _ (mem_of_tableGet he)
  revisitNodup := hs.revisit.1
  revisit n := ⟨hs.revisit.2.1 n, fun ⟨hn, hm⟩ => hs.revisit.2.2 n hn hm⟩
  staged := hs.window.1
  applied := hs.window.2.1
  appliedZero := hs.window.2.2.1
  stagedZero := hs.window.2.2.2.1

theorem State.Laws.blocks {s : State} (hs : s.Laws) : BlocksSound [] s.upload s.recordAt s.link.state := by
  obtain ⟨hmost, hnodup, heach, hcarried, hidle, hlocked, hbusy, hcounts⟩ := hs.upload
  refine ⟨hmost, hnodup, fun o ho => ?_, fun n r hr hc => .inr (hcarried _ (mem_of_tableGet hr) hc), List.forall_mem_nil _,
    hidle, hlocked, hbusy, hcounts⟩
  obtain ⟨hsome, hmost, hrising, ht, ht', hcarries⟩ := heach o ho
  refine ⟨hsome, hmost, hrising, ht, ht', fun n hn => ?_⟩
  obtain ⟨r, hr, hcr⟩ := any_iff.1 (hcarries n hn)
  exact ⟨r, hr, by simpa using hcr⟩

theorem State.Laws.sound {s : State} (hs : s.Laws) : s.Sound [] where
  roster := hs.roster
  records := hs.records
  segments := hs.segments
  route := hs.route
  blocks := hs.blocks
  tx := hs.tx
  link := hs.link
  channel := hs.channel
  settings := hs.settings
  port := hs.port

theorem State.Laws.live {s : State} (hs : s.Laws) (hl : s.listens) : s.Live [] := { hs.sound with listens := hl }

/-! ## To the laws -/

section
variable {s : State}

/-- The record of a listed slot is the one that is read there. -/
theorem Roster.Sound.get {ro : Roster} (h : ro.Sound) {e : Nat × Record} (he : e ∈ ro.slots) :
    tableGet ro.slots e.1 = some e.2 :=
  tableGet_of_mem h.rising he

theorem State.Sound.tablesLaw (h : s.Sound []) : s.tablesLaw :=
  ⟨h.roster.rising, h.roster.keys, h.roster.indexRising, h.roster.indexKeys, h.segments.canonical⟩

theorem Roster.Sound.indexLaw (h : s.roster.Sound) : s.indexLaw := by
  refine ⟨fun e he f hf => h.oneSlot _ _ _ _ (h.get he) (h.get hf), fun e he => h.oneWay _ _ (h.get he), fun w hw => ?_⟩
  obtain ⟨r, hr, hb⟩ := h.wayNames w hw
  exact any_iff.2 ⟨r, hr, decide_eq_true hb⟩

/-- The record in a listed slot is sound. -/
theorem State.Sound.record_mem {loose : List Nat} (h : s.Sound loose) {e : Nat × Record} (he : e ∈ s.roster.slots) :
    RecordSound s.route.state s.store.live s.eval s.chain e.1 e.2 :=
  h.records.each _ _ (h.roster.get he)

theorem State.Sound.queueLaw (h : s.Sound []) : s.queueLaw := by
  refine ⟨h.records.queueNodup, fun n hn => ?_, fun e he hq => (h.record_mem he).queued.2 hq⟩
  obtain ⟨r, hr⟩ := h.records.queueSlots n hn
  exact any_iff.2 ⟨r, hr, decide_eq_true ((h.records.each n r hr).queued.1 hn)⟩

theorem State.Sound.chainLaw (h : s.Sound []) : s.chainLaw := by
  refine ⟨h.records.chainNodup, fun n hn => ?_, fun e he hq => (h.record_mem he).flagged.2 hq⟩
  obtain ⟨r, hr⟩ := h.records.chainSlots n hn
  exact any_iff.2 ⟨r, hr, decide_eq_true ((h.records.each n r hr).flagged.1 hn)⟩

theorem State.Sound.runningLaw (h : s.Sound []) : s.runningLaw := by
  refine ⟨fun e he hr => ?_, fun c hc => ?_⟩
  · obtain ⟨c, hc, hslot, hd⟩ := (h.record_mem he).running hr
    exact any_iff.2 ⟨c, hc, by simp [hslot, hd]⟩
  · have hcs := h.records.computation c hc
    refine ⟨fun hd => ?_, hcs.digitsLow, hcs.digitsHigh, hcs.value, hcs.baseline⟩
    obtain ⟨r, hr, he⟩ := hcs.record hd
    exact any_iff.2 ⟨r, hr, by simpa using he⟩

theorem State.Sound.uploadLaw (h : s.Sound []) : s.uploadLaw := by
  have hb := h.blocks
  refine ⟨hb.most, hb.nodup, fun o ho => ?_, fun e he hc => ?_, hb.idle, hb.locked, hb.busy, hb.counts⟩
  · have hs := hb.each o ho
    refine ⟨hs.nonempty, hs.most, hs.rising, hs.tenths, hs.tenths', fun n hn => ?_⟩
    obtain ⟨r, hr, hc⟩ := hs.carries n hn
    exact any_iff.2 ⟨r, hr, by simpa using hc⟩
  · exact (hb.carriers _ _ (h.roster.get he) hc).resolve_left (List.not_mem_nil)

theorem State.Sound.windowLaw (h : s.Sound []) : s.windowLaw := by
  have hg := h.segments
  refine ⟨hg.staged, hg.applied, hg.appliedZero, hg.stagedZero, fun ha hc e he => ?_⟩
  have hen := (hg.each e.1 (hg.canonical.2 e he).1).unvisited ha hc
  rwa [entryIn, tableGet_of_mem hg.canonical.1 he] at hen

/-- A route state that allows no record leaves the roster empty. -/
theorem State.Sound.slots_nil {loose : List Nat} (h : s.Sound loose) (he : s.route.state = .empty) : s.roster.slots = [] := by
  refine List.eq_nil_iff_forall_not_mem.2 fun e hm => ?_
  have := (h.record_mem hm).allowed
  rw [he] at this
  exact this

/-- A segment that no record names, that fits no other state and was never visited is in the empty form. -/
theorem EntrySound.eq_empty {covered : Bool} {e : SegEntry} (h : EntrySound .empty covered (fun _ => 0) e) : e = {} := by
  have hv := h.unvisited (by decide) (by decide)
  have hf := h.fits (by decide)
  have hd := h.deadline
  have hm := h.members
  have hr := h.read
  have hg := h.flagged
  obtain ⟨state, members, read, flagged, visited, deadline⟩ := e
  simp only at hv hm hr hg hd
  subst hv hm hr hg
  cases state <;> simp only [SegEntry.fits] at hf <;> try omega
  cases deadline <;> simp_all

/-- In EMPTY nothing is left of a route (Table 2-1). -/
theorem State.Sound.emptyLaw (h : s.Sound []) : s.emptyLaw := by
  intro he
  have hslots := h.slots_nil he
  have hget : ∀ n, s.recordAt n = none := fun n => by rw [State.recordAt, hslots]; rfl
  have hlist : ∀ l : List Nat, (∀ n ∈ l, ∃ r, s.recordAt n = some r) → l = [] := fun l hl =>
    List.eq_nil_iff_forall_not_mem.2 fun n hn => by
      obtain ⟨r, hr⟩ := hl n hn
      rw [hget] at hr
      cases hr
  have hindex : s.roster.index = [] := List.eq_nil_iff_forall_not_mem.2 fun w hw => by
    obtain ⟨r, hr, -⟩ := h.roster.wayNames w hw
    cases (hget w.2).symm.trans hr
  have htable : s.upload.table = [] := List.eq_nil_iff_forall_not_mem.2 fun o ho => by
    have hb := h.blocks.each o ho
    exact hb.nonempty (hlist _ fun n hn => (hb.carries n hn).imp fun r hr => hr.1)
  have hg := h.segments
  have hentry : ∀ n, n < 1024 → entryIn s.seg.table n = {} := fun n hn => by
    have := hg.each n hn
    rw [he, hslots] at this
    exact this.eq_empty
  have hseg : s.seg.table = [] := List.eq_nil_iff_forall_not_mem.2 fun e hm => by
    obtain ⟨hn, hne⟩ := hg.canonical.2 e hm
    have := hentry e.1 hn
    rw [entryIn, tableGet_of_mem hg.canonical.1 hm] at this
    exact hne this
  have hrevisit : s.seg.revisit = [] := List.eq_nil_iff_forall_not_mem.2 fun n hm => by
    obtain ⟨hn, hst⟩ := (hg.revisit n).1 hm
    rw [hentry n hn] at hst
    cases hst
  refine ⟨?_, hlist _ h.records.chainSlots, hlist _ h.records.queueSlots, htable, ?_⟩
  · calc s.roster = ⟨s.roster.slots, s.roster.index⟩ := rfl
      _ = {} := by rw [hslots, hindex]
  · calc s.seg = ⟨s.seg.table, s.seg.staged, s.seg.applied, s.seg.revisit⟩ := rfl
      _ = {} := by
        rw [hseg, hrevisit, hg.appliedZero (by rw [he]; decide), hg.stagedZero (by rw [he]; decide) (by rw [he]; decide)]

/-- A sound part keeps every law, once the laws of its power and of a held reset are seen to. -/
theorem State.Sound.laws (h : s.Sound []) (hp : s.powerLaw) (hh : s.holdLaw) : s.Laws where
  tables := h.tablesLaw
  index := h.roster.indexLaw
  record _ he := ⟨(h.record_mem he).inRange, (h.record_mem he).holds, (h.record_mem he).allowed⟩
  queue := h.queueLaw
  running := h.runningLaw
  fresh _ he x hx := ⟨(h.record_mem he).done x hx, (h.record_mem he).snapshot x hx⟩
  chain := h.chainLaw
  route := h.route
  empty := h.emptyLaw
  segCount n hn := ⟨(h.segments.each n hn).members, (h.segments.each n hn).read, (h.segments.each n hn).flagged⟩
  segState n hn :=
    ⟨(h.segments.each n hn).fits, (h.segments.each n hn).closed, (h.segments.each n hn).deadline,
      (h.segments.each n hn).visited⟩
  revisit := ⟨h.segments.revisitNodup, fun n => (h.segments.revisit n).1, fun n hn hm => (h.segments.revisit n).2 ⟨hn, hm⟩⟩
  window := h.windowLaw
  tx := h.tx
  link := h.link
  upload := h.uploadLaw
  channel := h.channel
  settings := h.settings
  port := h.port
  power := hp
  hold := hh

/-- A part that has started and is not held keeps every law when it is sound. -/
theorem State.Live.laws (h : s.Live []) : s.Laws :=
  h.toSound.laws (fun hp => absurd h.listens.1 hp) (fun hr => by rw [h.listens.2] at hr; cases hr)

end

end Sys2Proof.Machine

/-! PROOFS. The transmit queue, the link's own transitions and the command wrapper keep the laws of a running part. -/

namespace Sys2Proof.Machine

variable {s : State} {loose : List Nat}

/-! ## Completed commands -/

/-- The command completes in a state that keeps every law. -/
def Lawful (a : Answer) : Prop := ∃ t, a = .next t ∧ t.Laws

theorem State.Live.lawful (h : s.Live []) : Lawful (.next s) := ⟨s, rfl, h.laws⟩

/-! ## Causes, answers and the record of MISO -/

theorem State.Live.raise (h : s.Live loose) (cause : BitVec 8) : (raise cause s).Live loose := { h with }

theorem State.Live.carryFill (h : s.Live loose) (tx : Tx) : (carryFill tx s).Live loose := { h with }

theorem State.Live.answer (h : s.Live loose) (st : Status) {data : List Byte} (hd : data.length ≤ 255) :
    (answer st data s).Live loose :=
  { h with port := ⟨h.port.1, by rintro r ⟨⟩; exact hd, h.port.2.2⟩ }

theorem State.Live.reply (h : s.Live []) (st : Status) {data : List Byte} (hd : data.length ≤ 255) :
    Lawful (reply st data s) :=
  (h.answer st hd).lawful

/-- A transaction changes nothing, is answered BAD_LENGTH, or is handed to its owner (R186, R187). -/
theorem command_cases (code : Byte) (len : Nat) (owner : List Byte → State → Answer) (tx : Tx) (s : State) :
    command code len owner tx s = .next s
    ∨ (s.listens ∧ (txArgs tx).length = len ∧ command code len owner tx s = owner (txArgs tx) (carryFill tx s))
    ∨ (s.listens ∧ ∃ n : Byte, command code len owner tx s = reply .badLength [code, n] (carryFill tx s)) := by
  by_cases ht : s.takes tx.dropped = true
  · obtain ⟨hs, hd⟩ := (takes_eq s tx.dropped).1 ht
    by_cases hf : txFits tx len = true
    · refine .inr (.inl ⟨hs, ?_, by simp [command, ht, hf]⟩)
      unfold txFits at hf
      unfold txArgs
      cases hr : tx.rest with
      | nil => rw [hr] at hf; cases hf
      | cons n args =>
        rw [hr] at hf
        simp only [Bool.and_eq_true, decide_eq_true_eq] at hf
        exact hf.1.2.trans hf.2
    · exact .inr (.inr ⟨hs, _, command_badLength hs hd (by simpa using hf)⟩)
  · exact .inl (by simp [command, ht])

/-- A command of the host keeps the laws when its owner does. -/
theorem command_lawful {code : Byte} {len : Nat} {owner : List Byte → State → Answer} {tx : Tx} (h : s.Laws)
    (howner : ∀ (args : List Byte) (s : State), s.Live [] → args.length = len → Lawful (owner args s)) :
    Lawful (command code len owner tx s) := by
  rcases command_cases code len owner tx s with hc | ⟨hs, hlen, hc⟩ | ⟨hs, n, hc⟩ <;> rw [hc]
  · exact ⟨s, rfl, h⟩
  · exact howner _ _ ((h.live hs).carryFill tx) hlen
  · exact ((h.live hs).carryFill tx).reply _ (by simp)

/-! ## The transmit queue (R159) -/

/-- The types of the frames that the part sends. -/
def sentTypes : List Byte := [typPartSync, typUnitStatus, typLoadStatus, typUploadBlock, typUploadEnd, typCheckResult]

/-- A frame of a kind that the part sends, no longer than an UPLOAD BLOCK of sixteen records. -/
def Frame.sendable (f : Frame) : Prop := f.typ ∈ sentTypes ∧ f.payload.length ≤ 454

/-- A queue of frames of the six kinds is as long as the six kinds together. -/
theorem length_eq_waiting {l : Link} (h : ∀ f ∈ l.txQueue, f.typ ∈ sentTypes) :
    l.txQueue.length = l.waiting typPartSync + l.waiting typUnitStatus + l.waiting typLoadStatus
      + l.waiting typUploadBlock + l.waiting typUploadEnd + l.waiting typCheckResult := by
  unfold Link.waiting
  generalize l.txQueue = q at h
  induction q with
  | nil => rfl
  | cons f q ih =>
    have ih := ih fun g hg => h g (List.mem_cons_of_mem _ hg)
    have hf := h f List.mem_cons_self
    simp only [sentTypes, List.mem_cons, List.not_mem_nil, or_false] at hf
    rcases hf with hf | hf | hf | hf | hf | hf <;>
      simp [hf, typPartSync, typUnitStatus, typLoadStatus, typUploadBlock, typUploadEnd, typCheckResult] at ih ⊢ <;> omega

/-- The law of the transmit queue, kind by kind: the places of each kind bound the whole queue. -/
theorem txLaw_iff : s.txLaw ↔ (∀ f ∈ s.link.txQueue, f.sendable) ∧ ∀ typ ∈ sentTypes, s.link.waiting typ ≤ txLimit typ := by
  have hlimits : (∀ typ ∈ sentTypes, s.link.waiting typ ≤ txLimit typ)
      ↔ s.link.waiting typPartSync ≤ 1 ∧ s.link.waiting typUnitStatus ≤ 1 ∧ s.link.waiting typLoadStatus ≤ 4
        ∧ s.link.waiting typUploadBlock ≤ 4 ∧ s.link.waiting typUploadEnd ≤ 1 ∧ s.link.waiting typCheckResult ≤ 1 := by
    simp [sentTypes, txLimit, typPartSync, typUnitStatus, typLoadStatus, typUploadBlock, typUploadEnd, typCheckResult]
  rw [hlimits]
  constructor
  · rintro ⟨hf, h1, h2, h3, h4, h5, h6, -⟩
    exact ⟨hf, h1, h2, h3, h4, h5, h6⟩
  · rintro ⟨hf, h1, h2, h3, h4, h5, h6⟩
    refine ⟨hf, h1, h2, h3, h4, h5, h6, ?_⟩
    rw [length_eq_waiting fun f h => (hf f h).1]
    omega

theorem txLaw_nil (h : s.link.txQueue = []) : s.txLaw := by
  refine txLaw_iff.2 ⟨by rw [h]; exact List.forall_mem_nil _, fun typ _ => ?_⟩
  rw [Link.waiting, h]
  exact Nat.zero_le _

/-- An offered frame keeps the queue within its places. -/
theorem txLaw_offer {f : Frame} (h : s.txLaw) (hf : f.sendable) : (offer f s).txLaw := by
  rcases offer_cases f s with ⟨hroom, ho⟩ | ⟨-, ho⟩ <;> rw [ho]
  · obtain ⟨hall, hlimit⟩ := txLaw_iff.1 h
    refine txLaw_iff.2 ⟨fun g hg => ?_, fun typ htyp => ?_⟩
    · rcases List.mem_append.1 hg with hg | hg
      · exact hall g hg
      · obtain rfl := List.mem_singleton.1 hg
        exact hf
    · have hw := hlimit typ htyp
      unfold Link.waiting at hw hroom ⊢
      simp only [List.filter_append, List.length_append, List.filter_cons, List.filter_nil]
      by_cases he : f.typ = typ
      · subst he
        simp only [beq_self_eq_true, if_true, List.length_singleton]
        omega
      · simpa [he] using hw
  · exact h

/-- A link that is not DETACHED may hold any frames. -/
theorem linkLaw_txQueue (h : s.linkLaw) (hd : s.link.state ≠ .detached) (q : List Frame) :
    ({ s with link.txQueue := q } : State).linkLaw := by
  obtain ⟨hmated, -, hrest⟩ := h
  exact ⟨hmated, fun hs => absurd hs hd, hrest⟩

theorem State.Live.offer {f : Frame} (h : s.Live loose) (hd : s.link.state ≠ .detached) (hf : f.sendable) :
    (offer f s).Live loose := by
  have htx := txLaw_offer h.tx hf
  rw [offer_frame] at htx ⊢
  exact { h with tx := htx, link := linkLaw_txQueue h.link hd _ }

theorem loadStatusFrame_sendable (st : Status) (s : State) : (loadStatusFrame st s).sendable :=
  ⟨by simp [loadStatusFrame, sentTypes], by simp [loadStatusFrame]⟩

theorem State.Live.answerDepot (h : s.Live loose) (st : Status) : (answerDepot st s).Live loose := by
  unfold Machine.answerDepot
  split
  · rename_i hl
    exact h.offer (by rw [hl]; decide) (loadStatusFrame_sendable st s)
  · exact h

/-! ## The link (R151 to R163) -/

/-- The link of a listening part that a dock is mated to, in any state but DETACHED. -/
theorem linkLaw_up {l : Link} (h : s.linkLaw) (hd : s.link.state ≠ .detached) (hl : l.state ≠ .detached) (hrun : l.syncRun ≤ 3)
    (hlive : l.liveness ≤ 2) (hlocked : l.state = .locked ∨ l.state = .checking → l.syncRun = 0 ∧ l.liveness ≤ 1)
    (hheld : l.state = .checking → l.held = .none) (herr : l.errors ≤ 65535) (hpat : l.patterns ≤ 65535)
    (hrx : l.receiver.unfinished) : ({ s with link := l } : State).linkLaw := by
  have hmated := not_not.1 (mt h.1.2 hd)
  exact ⟨⟨fun hs => absurd hs hl, fun hs => absurd hmated hs⟩, fun hs => absurd hs hl, hrun, hlive, hlocked, hheld, herr, hpat,
    hrx⟩

theorem State.Live.refresh (h : s.Live loose) : (refresh s).Live loose := by
  obtain ⟨-, -, hrun, hlive, hlocked, hheld, herr, hpat, -⟩ := h.link
  unfold Machine.refresh
  cases hs : s.link.state with
  | detached => exact h
  | acquiring =>
    exact { h with
      link := linkLaw_up h.link (by rw [hs]; decide) (by rw [hs]; decide) hrun hlive hlocked hheld herr hpat trivial }
  | locked =>
    exact { h with
      link := linkLaw_up h.link (by rw [hs]; decide) (by rw [hs]; decide) hrun (Nat.zero_le _)
        (fun hl => ⟨(hlocked hl).1, Nat.zero_le _⟩) hheld herr hpat trivial }
  | checking =>
    exact { h with
      link := linkLaw_up h.link (by rw [hs]; decide) (by rw [hs]; decide) hrun (Nat.zero_le _)
        (fun hl => ⟨(hlocked hl).1, Nat.zero_le _⟩) hheld herr hpat trivial }

@[simp] theorem refresh_link_state (s : State) : (refresh s).link.state = s.link.state := by
  unfold Machine.refresh
  cases hs : s.link.state <;> simp [hs]

theorem State.Live.clearSyncRun (h : s.Live loose) : (clearSyncRun s).Live loose := by
  obtain ⟨hmated, hcold, -, hlive, hlocked, hrest⟩ := h.link
  exact { h with link := ⟨hmated, hcold, Nat.zero_le _, hlive, fun hl => ⟨rfl, (hlocked hl).2⟩, hrest⟩ }

theorem State.Live.countCheckError (h : s.Live loose) (hd : s.link.state ≠ .detached) : (countCheckError s).Live loose := by
  obtain ⟨-, -, hrun, hlive, hlocked, hheld, -, hpat, hrx⟩ := h.link
  exact { h with link := linkLaw_up h.link hd hd hrun hlive hlocked hheld (satInc_le _ _) hpat hrx }

theorem State.Live.countPattern (h : s.Live loose) (hd : s.link.state ≠ .detached) : (countPattern s).Live loose := by
  obtain ⟨-, -, hrun, hlive, hlocked, hheld, herr, -, hrx⟩ := h.link
  exact { h with link := linkLaw_up h.link hd hd hrun hlive hlocked hheld herr (satInc_le _ _) hrx }

/-- A message that LOCKED alone acts on keeps the laws when the action does. -/
theorem State.Live.messageArrival {act : State → State} (h : s.Live loose)
    (hact : ∀ t : State, t.Live loose → t.link.state = .locked → (act t).Live loose) : (messageArrival act s).Live loose := by
  have hr := h.refresh
  unfold Machine.messageArrival
  cases hs : s.link.state with
  | detached => exact h
  | acquiring => exact hr.clearSyncRun
  | locked => exact hact _ hr (by rw [refresh_link_state, hs])
  | checking => exact hr.countCheckError (by rw [refresh_link_state, hs]; decide)

theorem State.Live.erroredArrival (h : s.Live loose) : (erroredArrival s).Live loose := by
  unfold Machine.erroredArrival
  cases hs : s.link.state with
  | detached => exact h
  | acquiring => exact h.clearSyncRun
  | locked => exact h
  | checking => exact h.countCheckError (by rw [hs]; decide)

theorem State.Live.unusableArrival (h : s.Live loose) (typ : Byte) : (unusableArrival typ s).Live loose := by
  have hr := h.refresh
  unfold Machine.unusableArrival
  cases hs : s.link.state with
  | detached => exact h
  | acquiring => exact hr.clearSyncRun
  | locked => exact hr
  | checking =>
    have hd : (Machine.refresh s).link.state ≠ .detached := by rw [refresh_link_state, hs]; decide
    dsimp only
    split
    · exact (hr.countPattern hd).countCheckError hd
    · exact hr.countCheckError hd

theorem State.Live.checkPatternArrival (h : s.Live loose) (payload : List Byte) :
    (checkPatternArrival payload s).Live loose := by
  have hr := h.refresh
  unfold Machine.checkPatternArrival
  cases hs : s.link.state with
  | detached => exact h
  | acquiring => exact hr.clearSyncRun
  | locked => exact hr
  | checking =>
    have hd : (Machine.refresh s).link.state ≠ .detached := by rw [refresh_link_state, hs]; decide
    dsimp only
    split
    · exact hr.countPattern hd
    · exact (hr.countPattern hd).countCheckError hd

/-- The outstanding blocks where the link, which is not DETACHED, changes to a state that carries them. -/
theorem BlocksSound.relink {u : Upload} {get : Nat → Option Record} {l l' : LinkState} (h : BlocksSound loose u get l)
    (hlocked : u.table ≠ [] → l' = .locked) (hbusy : u.state ≠ .idle → l' = .locked ∨ l' = .checking) :
    BlocksSound loose u get l' :=
  { h with locked := hlocked, busy := hbusy }

/-- Out of LOCKED and CHECKING the Upload Engine is IDLE with no block outstanding. -/
theorem BlocksSound.at_rest {u : Upload} {get : Nat → Option Record} {l : LinkState} (h : BlocksSound loose u get l)
    (h1 : l ≠ .locked) (h2 : l ≠ .checking) : u.state = .idle ∧ u.table = [] :=
  ⟨by_contra fun hu => (h.busy hu).elim h1 h2, by_contra fun hu => h1 (h.locked hu)⟩

theorem unitStatusFrame_sendable (s : State) : (unitStatusFrame s).sendable :=
  ⟨by simp [unitStatusFrame, sentTypes], by simp [unitStatusFrame]⟩

theorem State.Live.acquireLock (h : s.Live loose) (hs : s.link.state = .acquiring) : (acquireLock s).Live loose := by
  obtain ⟨-, -, -, -, -, -, herr, hpat, hrx⟩ := h.link
  obtain ⟨hidle, htable⟩ := h.blocks.at_rest (by rw [hs]; decide) (by rw [hs]; decide)
  have hlocked : ({ s with link.state := .locked, link.syncRun := 0, link.liveness := 0 } : State).Live loose :=
    { h with
      link := linkLaw_up h.link (by rw [hs]; decide) (by simp) (Nat.zero_le _) (Nat.zero_le _) (fun _ => ⟨rfl, Nat.zero_le _⟩)
        (fun hc => by cases hc) herr hpat hrx
      blocks := h.blocks.relink (fun _ => rfl) (fun _ => .inl rfl) }
  exact (hlocked.offer (LinkState.noConfusion) (unitStatusFrame_sendable _)).raise _

theorem State.Live.syncArrival (h : s.Live loose) : (syncArrival s).Live loose := by
  have hr := h.refresh
  unfold Machine.syncArrival
  cases hs : s.link.state with
  | detached => exact h
  | acquiring =>
    have ha : (Machine.refresh s).link.state = .acquiring := by rw [refresh_link_state, hs]
    dsimp only
    split
    · rename_i hrun
      obtain ⟨hmated, hcold, -, hlive, hlocked, hrest⟩ := hr.link
      refine { hr with link := ⟨hmated, hcold, Nat.le_of_lt_succ hrun, hlive, fun hl => ?_, hrest⟩ }
      exact hl.elim (fun hl => LinkState.noConfusion (ha.symm.trans hl)) fun hl => LinkState.noConfusion (ha.symm.trans hl)
    · exact hr.acquireLock ha
  | locked => exact hr
  | checking => exact hr

theorem checkResultFrame_sendable (verdict : Nat) (s : State) : (checkResultFrame verdict s).sendable :=
  ⟨by simp [checkResultFrame, sentTypes], by simp [checkResultFrame]⟩

theorem State.Live.checkStart (h : s.Live loose) (hs : s.link.state = .locked) : (checkStart s).Live loose := by
  have hd : s.link.state ≠ .detached := by rw [hs]; decide
  obtain ⟨-, -, hrun, hlive, hlocked, -, -, -, hrx⟩ := h.link
  unfold Machine.checkStart
  split
  · exact h.offer hd (checkResultFrame_sendable _ _)
  · rename_i hout
    have htable : s.upload.table = [] := by
      simpa [State.blocksOut] using hout
    exact { h with
      link := linkLaw_up h.link hd (by simp) hrun hlive (fun _ => hlocked (.inl hs)) (fun _ => rfl) (Nat.zero_le _)
        (Nat.zero_le _) hrx
      blocks := h.blocks.relink (fun hn => absurd htable hn) (fun _ => .inr rfl) }

theorem State.Live.endCheck (h : s.Live loose) (hs : s.link.state = .checking) : (endCheck s).Live loose := by
  obtain ⟨-, -, hrun, hlive, hlocked, -, herr, hpat, hrx⟩ := h.link
  have hended (held : CheckResult) : ({ s with link.state := .locked, link.held := held } : State).Live loose :=
    { h with
      link := linkLaw_up h.link (by rw [hs]; decide) (by simp) hrun hlive (fun _ => hlocked (.inr hs)) (fun hc => by cases hc)
        herr hpat hrx
      blocks := h.blocks.relink (fun _ => rfl) (fun _ => .inl rfl) }
  exact ((hended _).offer (LinkState.noConfusion) (checkResultFrame_sendable _ _)).raise _

theorem State.Live.checkEndArrival (h : s.Live loose) : (checkEndArrival s).Live loose := by
  have hr := h.refresh
  unfold Machine.checkEndArrival
  cases hs : s.link.state with
  | detached => exact h
  | acquiring => exact hr.clearSyncRun
  | locked => exact hr
  | checking => exact hr.endCheck (by rw [refresh_link_state, hs])

end Sys2Proof.Machine

/-! PROOFS. How the laws of the roster, the records, the segments and the outstanding blocks carry over a change: of every record
in its place, of one record, of one segment. -/

namespace Sys2Proof.Machine

/-! ## The roster -/

/-- Records changed in their places, each keeping its identifier. -/
theorem Roster.Sound.remap {ro : Roster} (h : ro.Sound) {f : Nat → Record → Record}
    (hid : ∀ n r, tableGet ro.slots n = some r → (f n r).meterId = r.meterId) :
    Roster.Sound { ro with slots := ro.slots.map (fun e => (e.1, f e.1 e.2)) } := by
  have hget (n : Nat) : tableGet (ro.slots.map (fun e => (e.1, f e.1 e.2))) n = (tableGet ro.slots n).map (f n) :=
    tableGet_map f _ n
  refine ⟨tableRising_map (fun e => f e.1 e.2) h.rising, ?_, h.indexRising, h.indexKeys, ?_, ?_, ?_⟩
  · intro e he
    obtain ⟨x, hx, rfl⟩ := List.mem_map.1 he
    exact h.keys x hx
  · intro n m q r hq hr heq
    rw [hget, Option.map_eq_some_iff] at hq hr
    obtain ⟨q, hq, rfl⟩ := hq
    obtain ⟨r, hr, rfl⟩ := hr
    exact h.oneSlot n m q r hq hr (by rw [← hid n q hq, ← hid m r hr, heq])
  · intro n r hr
    rw [hget, Option.map_eq_some_iff] at hr
    obtain ⟨r, hr, -⟩ := hr
    exact h.oneWay n r hr
  · intro w hw
    obtain ⟨r, hr, hb⟩ := h.wayNames w hw
    exact ⟨f w.2 r, by rw [hget, hr]; rfl, by rw [hid _ _ hr]; exact hb⟩

/-- One record written in its place, keeping its identifier. -/
theorem Roster.Sound.write {ro : Roster} (h : ro.Sound) {n : Nat} {r r' : Record} (hr : tableGet ro.slots n = some r)
    (hid : r'.meterId = r.meterId) : Roster.Sound { ro with slots := tablePut ro.slots n r' } := by
  rw [tablePut_listed r' h.rising hr]
  refine h.remap (f := fun k x => if k = n then r' else x) fun k x hx => ?_
  split
  · rename_i hk
    rw [hk] at hx
    rw [hid, Option.some.inj (hr.symm.trans hx)]
  · rfl

/-! ## The records -/

section
variable {get get' : Nat → Option Record} {route route' : RouteState} {live : Settings} {ev ev' : EvalUnit} {chain chain' : List Nat}

/-- A record that is not changed stays sound while its slot stands in the queue and the chain as before, and the running
computation is the same if it is RUNNING. -/
theorem RecordSound.other {n : Nat} {r : Record} (h : RecordSound route live ev chain n r)
    (hq : n ∈ ev'.queue ↔ n ∈ ev.queue) (hc : n ∈ chain' ↔ n ∈ chain) (hu : r.eval = .running → ev'.running = ev.running) :
    RecordSound route live ev' chain' n r :=
  { h with
    queued := hq.trans h.queued
    flagged := hc.trans h.flagged
    running := fun he => by rw [hu he]; exact h.running he
    snapshot := fun x hx he => by rw [hu he]; exact h.snapshot x hx he }

/-- A computation stays sound while its record, if it has not departed, stays under evaluation. -/
theorem ComputationSound.of_get {c : Computation} (h : ComputationSound get c)
    (hg : ∀ r, c.departed = false → get c.slot = some r → r.eval = .running ∨ r.eval = .queued →
      ∃ r', get' c.slot = some r' ∧ (r'.eval = .running ∨ r'.eval = .queued)) : ComputationSound get' c :=
  { h with
    record := fun hd => by
      obtain ⟨r, hr, he⟩ := h.record hd
      exact hg r hd hr he }

/-- Every record is changed in its place, the queue and the chain keeping their slots and the unit its computation. -/
theorem RecordsSound.remap (h : RecordsSound get route live ev chain) {f : Nat → Record → Record}
    (hget : ∀ n, get' n = (get n).map (f n))
    (heach : ∀ n r, get n = some r → RecordSound route live ev chain n r → RecordSound route' live ev chain n (f n r))
    (heval : ∀ n r, get n = some r → (f n r).eval = r.eval) : RecordsSound get' route' live ev chain := by
  refine ⟨fun n r hr => ?_, h.queueNodup, fun n hn => ?_, h.chainNodup, fun n hn => ?_, fun c hc => ?_⟩
  · rw [hget, Option.map_eq_some_iff] at hr
    obtain ⟨q, hq, rfl⟩ := hr
    exact heach n q hq (h.each n q hq)
  · obtain ⟨r, hr⟩ := h.queueSlots n hn
    exact ⟨f n r, by rw [hget, hr]; rfl⟩
  · obtain ⟨r, hr⟩ := h.chainSlots n hn
    exact ⟨f n r, by rw [hget, hr]; rfl⟩
  · refine (h.computation c hc).of_get fun r _ hr he => ⟨f c.slot r, by rw [hget, hr]; rfl, ?_⟩
    rwa [heval _ _ hr]

/-- The record of one slot is written, and with it the slot's places in the queue and the chain, and the computation. -/
theorem RecordsSound.write (h : RecordsSound get route live ev chain) {n : Nat} {r' : Record}
    (hget : ∀ k, get' k = if k = n then some r' else get k)
    (hn : RecordSound route live ev' chain' n r')
    (hqn : ev'.queue.Nodup) (hq : ∀ k, k ≠ n → (k ∈ ev'.queue ↔ k ∈ ev.queue))
    (hcn : chain'.Nodup) (hc : ∀ k, k ≠ n → (k ∈ chain' ↔ k ∈ chain))
    (hu : ∀ k r, k ≠ n → get k = some r → r.eval = .running → ev'.running = ev.running)
    (hcomp : ∀ c, ev'.running = some c → ComputationSound get' c) : RecordsSound get' route live ev' chain' := by
  refine ⟨fun k r hr => ?_, hqn, fun k hk => ?_, hcn, fun k hk => ?_, hcomp⟩
  · rw [hget] at hr
    split at hr
    · rename_i hkn
      obtain rfl := Option.some.inj hr
      rw [hkn]
      exact hn
    · rename_i hkn
      exact (h.each k r hr).other (hq k hkn) (hc k hkn) (hu k r hkn hr)
  · rw [hget]
    split
    · exact ⟨r', rfl⟩
    · rename_i hkn
      exact h.queueSlots k ((hq k hkn).1 hk)
  · rw [hget]
    split
    · exact ⟨r', rfl⟩
    · rename_i hkn
      exact h.chainSlots k ((hc k hkn).1 hk)

/-- The running computation stays sound when the record written, if it is the computation's, stays under evaluation. -/
theorem RecordsSound.computation_write (h : RecordsSound get route live ev chain) {n : Nat} {r' : Record}
    (hget : ∀ k, get' k = if k = n then some r' else get k)
    (he : ∀ r, get n = some r → r.eval = .running ∨ r.eval = .queued → r'.eval = .running ∨ r'.eval = .queued) :
    ∀ c, ev.running = some c → ComputationSound get' c := by
  refine fun c hc => (h.computation c hc).of_get fun r _ hr hev => ?_
  rw [hget]
  split
  · rename_i hcn
    exact ⟨r', rfl, he r (hcn ▸ hr) hev⟩
  · exact ⟨r, hr, hev⟩

/-- The record of one slot is written and keeps its eval state and its place on the chain. -/
theorem RecordsSound.write_same (h : RecordsSound get route live ev chain) {n : Nat} {r r' : Record} (hr : get n = some r)
    (hget : ∀ k, get' k = if k = n then some r' else get k) (he : r'.eval = r.eval)
    (hn : RecordSound route live ev chain n r → RecordSound route live ev chain n r') :
    RecordsSound get' route live ev chain :=
  h.write hget (hn (h.each n r hr)) h.queueNodup (fun _ _ => Iff.rfl) h.chainNodup (fun _ _ => Iff.rfl) (fun _ _ _ _ _ => rfl)
    (h.computation_write hget fun q hq hev => by
      obtain rfl := Option.some.inj (hr.symm.trans hq)
      rwa [he])

end

/-- Reading the slots after a write. -/
theorem recordAt_setRecord (n : Nat) (r : Record) (s : State) (k : Nat) :
    (setRecord n r s).recordAt k = if k = n then some r else s.recordAt k := by
  split
  · rename_i h
    rw [h, recordAt_setRecord_same]
  · rename_i h
    exact recordAt_setRecord_other r s h

/-! ## The counts of the segments -/

/-- One when a record names segment `m` in a state that satisfies `p`. -/
def Record.bit (r : Record) (m : Nat) (p : RecState → Bool) : Nat := if r.segment = m ∧ p r.state = true then 1 else 0

theorem countIn_cons (e : Nat × Record) (slots : List (Nat × Record)) (m : Nat) (p : RecState → Bool) :
    countIn (e :: slots) m p = e.2.bit m p + countIn slots m p := by
  unfold countIn Record.bit
  rw [List.filter_cons]
  by_cases h : e.2.segment = m ∧ p e.2.state = true
  · rw [if_pos (by simpa using h), if_pos h, List.length_cons, Nat.add_comm]
  · rw [if_neg (by simpa using h), if_neg h, Nat.zero_add]

/-- A write under a free key adds one entry to a selection. -/
theorem length_filter_put_free {α : Type} {m : List (Nat × α)} {k : Nat} (v : α) (h : tableGet m k = none)
    (q : Nat × α → Bool) :
    ((tablePut m k v).filter q).length = (m.filter q).length + if q (k, v) = true then 1 else 0 := by
  induction m with
  | nil => by_cases hq : q (k, v) = true <;> simp [tablePut, hq]
  | cons e t ih =>
    obtain ⟨j, w⟩ := e
    simp only [tableGet] at h
    split at h
    · cases h
    · rename_i hk
      simp only [tablePut, Ne.symm hk, if_false]
      split
      · rw [List.filter_cons]
        split <;> simp
      · rw [List.filter_cons, List.filter_cons]
        split
        · rw [List.length_cons, List.length_cons, ih h]
          omega
        · exact ih h

/-- Writing a free slot adds the record to the counts of its segment. -/
theorem countIn_put_free {slots : List (Nat × Record)} {n : Nat} (r : Record) (h : tableGet slots n = none) (m : Nat)
    (p : RecState → Bool) : countIn (tablePut slots n r) m p = countIn slots m p + r.bit m p := by
  rw [countIn, length_filter_put_free r h, Record.bit]
  congr 1
  simp

/-- Emptying an occupied slot takes its record from the counts of its segment. -/
theorem countIn_del {slots : List (Nat × Record)} {n : Nat} {r : Record} (hs : tableRising slots = true)
    (h : tableGet slots n = some r) (m : Nat) (p : RecState → Bool) :
    countIn (tableDel slots n) m p + r.bit m p = countIn slots m p := by
  rw [tableRising_iff] at hs
  induction slots with
  | nil => cases h
  | cons e t ih =>
    obtain ⟨k, q⟩ := e
    obtain ⟨hlt, ht⟩ := List.pairwise_cons.1 hs
    simp only [tableGet] at h
    rw [tableDel, List.filter_cons]
    split at h
    · rename_i hk
      obtain rfl := Option.some.inj h
      have hfree : t.filter (fun e => e.1 != n) = t :=
        List.filter_eq_self.2 fun e he => by
          have := hlt e he
          simp only [bne_iff_ne]
          simp only at this
          omega
      rw [if_neg (by simp [hk]), hfree, countIn_cons, Nat.add_comm]
    · rename_i hk
      have := ih ht h
      rw [tableDel] at this
      rw [if_pos (by simpa using hk), countIn_cons, countIn_cons, Nat.add_assoc, this]

/-- Writing an occupied slot moves the counts from the old record to the new. -/
theorem countIn_put {slots : List (Nat × Record)} {n : Nat} {r : Record} (r' : Record) (hs : tableRising slots = true)
    (h : tableGet slots n = some r) (m : Nat) (p : RecState → Bool) :
    countIn (tablePut slots n r') m p + r.bit m p = countIn slots m p + r'.bit m p := by
  have hdel := countIn_del (tableRising_put n r' hs) (tableGet_put_same slots n r') m p
  have hold := countIn_del hs h m p
  have hsame : tableDel (tablePut slots n r') n = tableDel slots n := by
    rw [tablePut_listed r' hs h, tableDel, tableDel, List.filter_map]
    refine (List.map_congr_left fun e he => ?_).trans (List.map_id _)
    have hne : e.1 ≠ n := by simpa using (List.mem_filter.1 he).2
    rw [if_neg hne, id]
  rw [hsame] at hdel
  omega

/-- Records changed in their places, none changing its segment or state, leave every count. -/
theorem countIn_remap {slots : List (Nat × Record)} {f : Nat → Record → Record}
    (h : ∀ e ∈ slots, (f e.1 e.2).segment = e.2.segment ∧ (f e.1 e.2).state = e.2.state) :
    countIn (slots.map (fun e => (e.1, f e.1 e.2))) = countIn slots := by
  funext m p
  unfold countIn
  rw [List.filter_map, List.length_map]
  congr 1
  refine List.filter_congr fun e he => ?_
  obtain ⟨hseg, hst⟩ := h e he
  simp only [Function.comp, hseg, hst]

/-- A record written in its place, changing neither its segment nor its state, leaves every count. -/
theorem countIn_write {slots : List (Nat × Record)} {n : Nat} {r r' : Record} (hs : tableRising slots = true)
    (h : tableGet slots n = some r) (hseg : r'.segment = r.segment) (hst : r'.state = r.state) :
    countIn (tablePut slots n r') = countIn slots := by
  funext m p
  have := countIn_put r' hs h m p
  have hbit : r'.bit m p = r.bit m p := by rw [Record.bit, Record.bit, hseg, hst]
  omega

/-- A record counts in no segment but its own. -/
theorem Record.bit_other {r : Record} {m : Nat} (h : m ≠ r.segment) (p : RecState → Bool) : r.bit m p = 0 :=
  if_neg fun hm => h hm.1.symm

theorem Record.bit_own {r : Record} (p : RecState → Bool) : r.bit r.segment p = if p r.state = true then 1 else 0 := by
  simp [Record.bit]

/-! ## The segments -/

section
variable {seg seg' : Segments} {route : RouteState} {slots slots' : List (Nat × Record)}

theorem SegmentsSound.recount (h : SegmentsSound seg route slots) (hc : countIn slots' = countIn slots) :
    SegmentsSound seg route slots' :=
  { h with each := fun n hn => by rw [hc]; exact h.each n hn }

theorem segsCanonical_putSeg {table : List (Nat × SegEntry)} {n : Nat} (h : segsCanonical table) (hn : n < 1024) (e : SegEntry) :
    segsCanonical (putSeg table n e) := by
  refine ⟨tableRising_putSeg n e h.1, fun x hx => ⟨?_, putSeg_lists_no_empty (fun y hy => (h.2 y hy).2) x hx⟩⟩
  unfold putSeg at hx
  split at hx
  · exact (h.2 x (List.mem_filter.1 hx).1).1
  · rcases mem_tablePut hx with rfl | hx
    · exact hn
    · exact (h.2 x hx).1

/-- An entry that is sound with other counts of its segment. -/
theorem EntrySound.of_counts {covered : Bool} {c c' : (RecState → Bool) → Nat} {e : SegEntry} (h : EntrySound route covered c e)
    (hc : ∀ p, c' p = c p) : EntrySound route covered c' e :=
  { h with members := h.members.trans (hc _).symm, read := h.read.trans (hc _).symm, flagged := h.flagged.trans (hc _).symm }

/-- One segment's entry changes, with its place on the Revisit List, and the counts of no other segment. -/
theorem SegmentsSound.change (h : SegmentsSound seg route slots) {n : Nat} (hn : n < 1024)
    (hcanonical : segsCanonical seg'.table) (hstaged : seg'.staged = seg.staged) (happlied : seg'.applied = seg.applied)
    (hentry : EntrySound route (seg.applied.covers n) (countIn slots' n) (entryIn seg'.table n))
    (hother : ∀ m, m ≠ n → entryIn seg'.table m = entryIn seg.table m)
    (hcounts : ∀ m, m ≠ n → ∀ p, countIn slots' m p = countIn slots m p)
    (hnodup : seg'.revisit.Nodup)
    (hrevisit : ∀ m, m ∈ seg'.revisit ↔ if m = n then (entryIn seg'.table n).state = .missed else m ∈ seg.revisit) :
    SegmentsSound seg' route slots' := by
  refine ⟨hcanonical, fun m hm => ?_, hnodup, fun m => ?_, hstaged ▸ h.staged, happlied ▸ h.applied,
    fun ha => happlied ▸ h.appliedZero ha, fun ha hr => hstaged ▸ h.stagedZero ha hr⟩
  · rw [happlied]
    by_cases hmn : m = n
    · rw [hmn]; exact hentry
    · rw [hother m hmn]
      exact (h.each m hm).of_counts (hcounts m hmn)
  · rw [hrevisit]
    split
    · rename_i hmn
      rw [hmn]
      exact ⟨fun hs => ⟨hn, hs⟩, fun hs => hs.2⟩
    · rename_i hmn
      rw [hother m hmn]
      exact h.revisit m

/-- The Revisit List where the segment stays MISSED, or stays off it. -/
theorem SegmentsSound.revisit_kept (h : SegmentsSound seg route slots) {n : Nat} (hn : n < 1024) {e : SegEntry}
    (he : e.state = .missed ↔ (entryIn seg.table n).state = .missed) (m : Nat) :
    m ∈ seg.revisit ↔ if m = n then e.state = .missed else m ∈ seg.revisit := by
  split
  · rename_i hmn
    rw [hmn, he, h.revisit n]
    exact ⟨fun hs => hs.2, fun hs => ⟨hn, hs⟩⟩
  · rfl

/-- The Revisit List where the segment leaves it. -/
theorem revisit_left {l : List Nat} {n : Nat} {e : SegEntry} (he : e.state ≠ .missed) (m : Nat) :
    m ∈ l.filter (· != n) ↔ if m = n then e.state = .missed else m ∈ l := by
  by_cases hmn : m = n <;> simp [hmn, he]

/-- The Revisit List where the segment joins it. -/
theorem revisit_joined {l : List Nat} {n : Nat} {e : SegEntry} (he : e.state = .missed) (m : Nat) :
    m ∈ l ++ [n] ↔ if m = n then e.state = .missed else m ∈ l := by
  by_cases hmn : m = n <;> simp [hmn, he]

theorem nodup_joined {l : List Nat} {n : Nat} (hl : l.Nodup) (hn : n ∉ l) : (l ++ [n]).Nodup :=
  List.nodup_append.2 ⟨hl, List.nodup_singleton n, by rintro a ha b hb rfl; exact hn (List.mem_singleton.1 hb ▸ ha)⟩

end

/-! ## The outstanding blocks -/

/-- Whether a record is carried, and by which block. -/
def Record.carrier (r : Record) : Bool × BitVec 8 := (r.upload.isCarried, r.upload.blockCode)

theorem carrier_map_eq {get get' : Nat → Option Record} {n : Nat} (h : (get' n).map Record.carrier = (get n).map Record.carrier)
    {r : Record} (hr : get n = some r) : ∃ r', get' n = some r' ∧ r'.upload.isCarried = r.upload.isCarried
      ∧ r'.upload.blockCode = r.upload.blockCode := by
  rw [hr] at h
  obtain ⟨r', hr', hc⟩ := Option.map_eq_some_iff.1 h
  exact ⟨r', hr', congrArg Prod.fst hc, congrArg Prod.snd hc⟩

/-- Records that stay carried by the same blocks leave the Outstanding Table sound. -/
theorem BlocksSound.of_carriers {loose : List Nat} {u : Upload} {get get' : Nat → Option Record} {l : LinkState}
    (h : BlocksSound loose u get l) (hc : ∀ n, (get' n).map Record.carrier = (get n).map Record.carrier) :
    BlocksSound loose u get' l :=
  { h with
    each := fun o ho =>
      { h.each o ho with
        carries := fun n hn => by
          obtain ⟨r, hr, hcar, hb⟩ := (h.each o ho).carries n hn
          obtain ⟨r', hr', h1, h2⟩ := carrier_map_eq (hc n) hr
          exact ⟨r', hr', h1.trans hcar, h2.trans hb⟩ }
    carriers := fun n r hr hcar => by
      obtain ⟨q, hq, h1, -⟩ := carrier_map_eq (hc n).symm hr
      exact h.carriers n q hq (h1.trans hcar)
    loose := fun n hn => by
      obtain ⟨r, hr, hcar⟩ := h.loose n hn
      obtain ⟨r', hr', h1, -⟩ := carrier_map_eq (hc n) hr
      exact ⟨r', hr', h1.trans hcar⟩ }

/-- A record written with the carrier it had. -/
theorem carrier_write {get get' : Nat → Option Record} {n : Nat} {r r' : Record} (hr : get n = some r)
    (hget : ∀ k, get' k = if k = n then some r' else get k) (hc : r'.carrier = r.carrier) (k : Nat) :
    (get' k).map Record.carrier = (get k).map Record.carrier := by
  rw [hget]
  split
  · rename_i hk
    rw [hk, hr, Option.map_some, Option.map_some, hc]
  · rfl

end Sys2Proof.Machine

/-! PROOFS. The Evaluation Unit's events, REEVALUATE and the reviews keep the laws of a running part. -/

namespace Sys2Proof.Machine

variable {s : State} {loose : List Nat}

/-! ## Evaluation states of a record -/

/-- A record with a reading holds what its states say in every eval state but NONE, and in DONE if it has a result. -/
theorem Record.holdsByState.evaluated {r : Record} (h : r.holdsByState) (hx : r.reading.isSome = true) {e : EvalState}
    (he : e ≠ .none) (hd : e = .done → r.result.isSome = true) : ({ r with eval := e } : Record).holdsByState := by
  obtain ⟨hread, hsignal, -, hresult, -, hflag, hrev, hcar⟩ := h
  refine ⟨hread, hsignal, ⟨fun hn => absurd hn he, fun hn => ?_⟩, hresult, hd, hflag, hrev, hcar⟩
  have hn : r.reading = none := hn
  rw [hn] at hx
  cases hx

/-- Live settings in range have every profile in range. -/
theorem Settings.inRange.profileAt {t : Settings} (h : t.inRange) (n : Nat) : (t.profileAt n).inRange := by
  unfold Settings.profileAt
  cases hp : t.profiles[n]? with
  | none => exact defaultSettings_inRange.2.2.2 _ (by simp)
  | some p => exact h.2.2.2 p (Vector.mem_toList_iff.2 (Vector.mem_of_getElem? hp))

/-- A record under evaluation holds a reading. -/
theorem Record.holdsByState.reading {r : Record} (h : r.holdsByState) (he : r.eval ≠ .none) : ∃ x, r.reading = some x := by
  obtain ⟨-, -, hnone, -⟩ := h
  exact Option.ne_none_iff_exists'.1 fun hx => he (hnone.2 hx)

/-! ## Records written with their states kept -/

/-- A record is written that keeps its identifier, its segment, its state and its carrier. -/
theorem State.Live.write (h : s.Live loose) {n : Nat} {r r' : Record} (hr : s.recordAt n = some r)
    (hid : r'.meterId = r.meterId) (hseg : r'.segment = r.segment) (hst : r'.state = r.state) (hcar : r'.carrier = r.carrier)
    {ev : EvalUnit} (hrec : RecordsSound (setRecord n r' s).recordAt s.route.state s.store.live ev s.chain) :
    ({ setRecord n r' s with eval := ev } : State).Live loose :=
  { h with
    roster := h.roster.write hr hid
    records := hrec
    segments := h.segments.recount (countIn_write h.roster.rising hr hseg hst)
    blocks := h.blocks.of_carriers (carrier_write hr (recordAt_setRecord n r' s) hcar) }

/-! ## EVALUATION_START (R91) -/

/-- The snapshot of a sound record with a reading has its values in the ranges of Table 5-4. -/
theorem computationSound_start {get : Nat → Option Record} {live : Settings} (hl : live.inRange) {n : Nat} {r r' : Record}
    {x : Reading} (hr : r.inRange (modulusOf (live.profileAt r.profile).digits)) (hx : r.reading = some x)
    (hget : get n = some r') (he : r'.eval = .running) :
    ComputationSound get { slot := n, snap := snapshotOf r x (live.profileAt r.profile), departed := false } := by
  obtain ⟨hlow, hhigh, -⟩ := hl.profileAt r.profile
  obtain ⟨-, -, -, -, hbase, -, -, -, -, hreading, -⟩ := hr
  exact ⟨fun _ => ⟨r', hget, .inl he⟩, hlow, hhigh, (hreading x hx).1, hbase⟩

theorem execEvaluationStart_lawful (h : s.Live []) : Lawful (execEvaluationStart s) := by
  by_cases hnot : s.eval.running ≠ none ∨ s.eval.queue = []
  · rw [execEvaluationStart_notMade (hnot.elim (fun h => .inr (.inl h)) fun h => .inr (.inr h))]
    exact h.lawful
  · obtain ⟨hidle, hqueue⟩ := not_or.1 hnot
    have hidle := not_not.1 hidle
    obtain ⟨slot, rest, hq⟩ := List.exists_cons_of_ne_nil hqueue
    obtain ⟨r, x, hr, he, hx⟩ := h.laws.queue_head hq
    rw [execEvaluationStart_made h.listens hidle hq hr hx]
    have hsound := h.records.each slot r hr
    have hnodup := h.records.queueNodup
    rw [hq] at hnodup
    obtain ⟨hslot, hrest⟩ := List.nodup_cons.1 hnodup
    refine (h.write (r' := { r with eval := .running }) hr rfl rfl rfl rfl ?_).lawful
    refine h.records.write (recordAt_setRecord _ _ s) ?_ hrest (fun k hk => ?_) h.records.chainNodup (fun _ _ => Iff.rfl)
      (fun k q _ hq he => ?_) fun c hc => ?_
    · exact {
        inRange := hsound.inRange
        holds := hsound.holds.evaluated (by rw [hx]; rfl) (by decide) (fun hd => by cases hd)
        allowed := hsound.allowed
        queued := ⟨fun hm => absurd hm hslot, fun hm => by cases hm⟩
        flagged := hsound.flagged
        running := fun _ => ⟨_, rfl, rfl, rfl⟩
        done := fun _ _ hd => by cases hd
        snapshot := fun y hy _ c hc => by
          obtain rfl := Option.some.inj (hx.symm.trans hy)
          obtain rfl := Option.some.inj hc
          exact ⟨_, rfl⟩ }
    · rw [hq, List.mem_cons]
      exact ⟨.inr, fun hm => hm.resolve_left hk⟩
    · obtain ⟨c, hc, -⟩ := (h.records.each k q hq).running he
      rw [hidle] at hc
      cases hc
    · obtain rfl := Option.some.inj hc
      exact computationSound_start h.settings.1 hsound.inRange hx (recordAt_setRecord_same slot _ s) rfl

/-! ## EVALUATION_COMPLETION (R101, R102, R108) -/

/-- The values of a result are in the ranges of Table 1-1. -/
theorem ComputationSound.result_inRange {get : Nat → Option Record} {c : Computation} (h : ComputationSound get c) :
    c.snap.result.delta ≤ 999999999 ∧ c.snap.result.rate ≤ 65535 ∧ c.snap.result.score ≤ 255 := by
  refine ⟨?_, Nat.min_le_left _ _, scoreOf_le _ _⟩
  have hd : c.snap.result.delta < modulusOf c.snap.digits := advanceOf_delta_lt h.value h.baseline
  have hm : modulusOf c.snap.digits ≤ 10 ^ 9 := Nat.pow_le_pow_right (by decide) h.digitsHigh
  omega

/-- With no record under way the unit can be IDLE. -/
theorem RecordsSound.idle {get : Nat → Option Record} {route : RouteState} {live : Settings} {ev : EvalUnit} {chain : List Nat}
    (h : RecordsSound get route live ev chain) (hnone : ∀ n r, get n = some r → r.eval ≠ .running) :
    RecordsSound get route live { ev with running := none } chain :=
  { h with
    each := fun n r hr => (h.each n r hr).other Iff.rfl Iff.rfl fun he => absurd he (hnone n r hr)
    computation := fun _ hc => by cases hc }

/-- A result that is dropped leaves no record RUNNING. -/
theorem State.Live.drop (h : s.Live loose) (hnone : ∀ n r, s.recordAt n = some r → r.eval ≠ .running) :
    ({ s with eval.running := none } : State).Live loose :=
  { h with records := h.records.idle hnone }

/-- A RUNNING record is that of the computation, which has not departed, and its generation is the snapshot's. -/
theorem RecordSound.of_running {route : RouteState} {live : Settings} {ev : EvalUnit} {chain : List Nat} {n : Nat} {r : Record}
    {c : Computation} (h : RecordSound route live ev chain n r) (hc : ev.running = some c) (he : r.eval = .running) :
    n = c.slot ∧ c.departed = false ∧ r.generation = c.snap.generation := by
  obtain ⟨c', hc', hslot, hd⟩ := h.running he
  obtain rfl := Option.some.inj (hc.symm.trans hc')
  obtain ⟨x, hx⟩ := h.holds.reading (by rw [he]; decide)
  obtain ⟨p, hp⟩ := h.snapshot x hx he c hc
  exact ⟨hslot.symm, hd, by rw [hp]; rfl⟩

/-- The record that a result is written on is sound in an IDLE unit. -/
theorem RecordSound.withResult {route : RouteState} {live : Settings} {ev : EvalUnit} {chain : List Nat} {n : Nat} {r : Record}
    {c : Computation} {get : Nat → Option Record} (h : RecordSound route live ev chain n r) (hc : ev.running = some c)
    (hcs : ComputationSound get c) (he : r.eval = .running) :
    RecordSound route live { ev with running := none } chain n (r.withResult c.snap.result) := by
  obtain ⟨x, hx⟩ := h.holds.reading (by rw [he]; decide)
  obtain ⟨p, hp⟩ := h.snapshot x hx he c hc
  obtain ⟨hid, hid', hprofile, hseg, hbase, hage, hband, hband', hhear, hreading, hsignal, -⟩ := h.inRange
  obtain ⟨hread, hsig, -, -, -, -, hrev, hcar⟩ := h.holds
  have hsome : r.reading.isSome = true := by rw [hx]; rfl
  refine ⟨⟨hid, hid', hprofile, hseg, hbase, hage, hband, hband', hhear, hreading, hsignal, ?_⟩, ?_, h.allowed, ?_, h.flagged,
    fun hd => (by cases hd), fun y hy _ => ⟨p, ?_⟩, fun _ _ hd => (by cases hd)⟩
  · rintro res ⟨⟩
    exact hcs.result_inRange
  · refine ⟨hread, hsig, ⟨fun hd => (by cases hd), fun hn => ?_⟩, fun _ => hsome, fun _ => rfl, fun _ => rfl, hrev, fun hcar' => ?_⟩
    · cases hx.symm.trans hn
    · refine hcar ?_
      unfold Record.withResult at hcar'
      by_cases hc' : r.upload.isCarried = true
      · exact hc'
      · simp [hc'] at hcar'
  · refine Iff.trans h.queued ⟨fun hq => ?_, fun hq => (by cases hq)⟩
    rw [he] at hq
    cases hq
  · obtain rfl := Option.some.inj (hx.symm.trans hy)
    rw [hp]
    rfl

theorem withResult_carrier (r : Record) (res : Result) : (r.withResult res).carrier = r.carrier := by
  unfold Record.carrier Record.withResult
  by_cases hc : r.upload.isCarried = true
  · simp only [hc]
    rfl
  · simp [hc]

/-- A record that the flag decision flags was READ or REVIEWED. -/
theorem flags_state {threshold : Nat} {res : Result} {r : Record} (h : flags threshold res r = true) :
    r.state = .read ∨ r.state = .reviewed := by
  obtain ⟨-, -, h⟩ := flags_iff.1 h
  exact h.imp_right And.left

/-- A sound record keeps its soundness when it becomes FLAGGED and its slot joins the chain. -/
theorem RecordSound.flag {route : RouteState} {live : Settings} {ev : EvalUnit} {chain : List Nat} {n : Nat} {r : Record}
    (h : RecordSound route live ev chain n r) (hst : r.state = .read ∨ r.state = .reviewed) (hres : r.result.isSome = true) :
    RecordSound route live ev (chain ++ [n]) n { r with state := .flagged } := by
  obtain ⟨hread, hsig, hnone, hresult, hdone, -, -, -⟩ := h.holds
  have hsome : r.reading.isSome = true := hread.2 (hst.imp_right .inr)
  refine ⟨h.inRange, ⟨⟨fun _ => .inr (.inl rfl), fun _ => hsome⟩, hsig, hnone, hresult, hdone, fun _ => hres,
    fun hr => (by cases hr), fun _ hr => (by cases hr)⟩, ?_, h.queued, ⟨fun _ => rfl, fun _ => by simp⟩, h.running, h.done,
    h.snapshot⟩
  have hallowed := h.allowed
  show route.allows .flagged
  cases route <;> rcases hst with hst | hst <;> rw [hst] at hallowed <;> simp_all [RouteState.allows]

/-- One more FLAGGED member, or one fewer: a count that stands beside the settling of the segment. -/
theorem EntrySound.withFlagged {route : RouteState} {covered : Bool} {c c' : (RecState → Bool) → Nat} {e : SegEntry} {k : Nat}
    (h : EntrySound route covered c e) (hmembers : c' (fun _ => true) = c (fun _ => true))
    (hread : c' (fun st => decide (st ≠ .expected)) = c (fun st => decide (st ≠ .expected)))
    (hflagged : k = c' (fun st => decide (st = .flagged))) : EntrySound route covered c' { e with flagged := k } :=
  { h with members := h.members.trans hmembers.symm, read := h.read.trans hread.symm, flagged := hflagged }

theorem entryIn_putSeg (table : List (Nat × SegEntry)) (n m : Nat) (e : SegEntry) :
    entryIn (putSeg table n e) m = if m = n then e else entryIn table m := getD_putSeg _ _ _ _

/-- A record's state changes between states that are not EXPECTED, and the flagged count of its segment with it. -/
theorem SegmentsSound.reflag {seg : Segments} {route : RouteState} {slots : List (Nat × Record)} (h : SegmentsSound seg route slots)
    (hs : tableRising slots = true) {n : Nat} {r r' : Record} (hr : tableGet slots n = some r) (hn : r.segment < 1024)
    (hseg : r'.segment = r.segment) (hst : r.state ≠ .expected) (hst' : r'.state ≠ .expected) {k : Nat}
    (hk : k + (if r.state = .flagged then 1 else 0)
      = (entryIn seg.table r.segment).flagged + (if r'.state = .flagged then 1 else 0)) :
    SegmentsSound { seg with table := putSeg seg.table r.segment { entryIn seg.table r.segment with flagged := k } } route
      (tablePut slots n r') := by
  have hcount := countIn_put r' hs hr
  have hown (p : RecState → Bool) : countIn (tablePut slots n r') r.segment p + (if p r.state = true then 1 else 0)
      = countIn slots r.segment p + (if p r'.state = true then 1 else 0) := by
    have h' := hcount r.segment p
    rwa [Record.bit_own, ← hseg, Record.bit_own, hseg] at h'
  have hentry := h.each _ hn
  refine h.change hn (segsCanonical_putSeg h.canonical hn _) rfl rfl ?_ (fun m hm => ?_) (fun m hm p => ?_) h.revisitNodup ?_
  · rw [entryIn_putSeg, if_pos rfl]
    refine hentry.withFlagged ?_ ?_ ?_
    · have := hown (fun _ => true)
      simpa using this
    · have := hown (fun st => decide (st ≠ .expected))
      simpa [hst, hst'] using this
    · have := hown (fun st => decide (st = .flagged))
      simp only [decide_eq_true_eq] at this
      have := hentry.flagged
      omega
  · rw [entryIn_putSeg, if_neg hm]
  · have := hcount m p
    rw [Record.bit_other hm, Record.bit_other (hseg ▸ hm)] at this
    exact this
  · rw [entryIn_putSeg, if_pos rfl]
    exact h.revisit_kept hn (e := { entryIn seg.table r.segment with flagged := k }) Iff.rfl

theorem execEvaluationCompletion_lawful (h : s.Live []) : Lawful (execEvaluationCompletion s) := by
  cases hc : s.eval.running with
  | none =>
    rw [execEvaluationCompletion_idle hc]
    exact h.lawful
  | some c =>
    by_cases hw : ∃ r, s.recordAt c.slot = some r ∧ r.eval = .running
    · obtain ⟨r, hr, he⟩ := hw
      have hsound := h.records.each _ r hr
      obtain ⟨-, hd, hg⟩ := hsound.of_running hc he
      have hcs := h.records.computation c hc
      have hsound' := hsound.withResult hc hcs he
      have hothers (k : Nat) (q : Record) (hk : k ≠ c.slot) (hq : s.recordAt k = some q) : q.eval ≠ .running := fun he =>
        hk ((h.records.each k q hq).of_running hc he).1
      rw [execEvaluationCompletion_writes hc hd hr he hg]
      cases hf : flags c.snap.threshold c.snap.result r with
      | false =>
        rw [writeResult_unflagged hf]
        refine (h.write (r' := r.withResult c.snap.result) hr rfl rfl rfl (withResult_carrier r _) ?_).lawful
        exact h.records.write (recordAt_setRecord _ _ s) hsound' h.records.queueNodup (fun _ _ => Iff.rfl)
          h.records.chainNodup (fun _ _ => Iff.rfl) (fun k q hk hq he => absurd he (hothers k q hk hq)) fun _ hc => by cases hc
      | true =>
        rw [writeResult_flagged hf]
        have hst := flags_state hf
        have hseg : r.segment < 1024 := Nat.lt_succ_of_le hsound.inRange.2.2.2.1
        have hne : r.state ≠ .flagged := by rcases hst with hst | hst <;> rw [hst] <;> decide
        have hexp : r.state ≠ .expected := by rcases hst with hst | hst <;> rw [hst] <;> decide
        have hjoins : c.slot ∉ s.chain := fun hm => hne (hsound.flagged.1 hm)
        refine State.Live.lawful { h with
          roster := h.roster.write hr rfl
          records := ?_
          segments := h.segments.reflag (r' := { r.withResult c.snap.result with state := .flagged })
            h.roster.rising hr hseg rfl hexp (by simp)
            (by rw [if_neg hne, if_pos rfl]; rfl)
          blocks := h.blocks.of_carriers (carrier_write hr (recordAt_setRecord c.slot _ s) (withResult_carrier r c.snap.result)) }
        exact h.records.write (recordAt_setRecord c.slot _ s) (hsound'.flag hst rfl) h.records.queueNodup (fun _ _ => Iff.rfl)
          (nodup_joined h.records.chainNodup hjoins) (fun k hk => by simp [hk])
          (fun k q hk hq he => absurd he (hothers k q hk hq)) fun _ hc => by cases hc
    · rw [execEvaluationCompletion_drops hc]
      · refine (h.drop fun n r hr he => hw ?_).lawful
        obtain ⟨hn, -⟩ := (h.records.each n r hr).of_running hc he
        exact ⟨r, hn ▸ hr, he⟩
      · cases hr : s.recordAt c.slot with
        | none => exact .inr (.inl rfl)
        | some r => exact .inr (.inr ⟨r, rfl, .inl fun he => hw ⟨r, hr, he⟩⟩)

end Sys2Proof.Machine

/-! PROOFS. The reviews, REEVALUATE, the channel inputs and the take keep the laws of a running part. -/

namespace Sys2Proof.Machine

variable {s : State} {loose : List Nat}

/-! ## Superseded marks and requests -/

/-- A superseded record stays carried by the same block (R5). -/
theorem isCarried_superseded (u : UploadMark) :
    (if u.isCarried = true then UploadMark.carried u.blockCode true else u).isCarried = u.isCarried := by
  cases u <;> rfl

theorem blockCode_superseded (u : UploadMark) :
    (if u.isCarried = true then UploadMark.carried u.blockCode true else u).blockCode = u.blockCode := by
  cases u <;> rfl

/-- The queue with a slot that joins it at its tail, if it is asked for and does not stand there. -/
theorem queue_asked {q : List Nat} {n : Nat} {e : EvalState} (hn : q.Nodup) (hq : n ∈ q ↔ e = .queued) (asks : Prop)
    [Decidable asks] :
    (if asks ∧ e ≠ .queued then q ++ [n] else q).Nodup
    ∧ (n ∈ (if asks ∧ e ≠ .queued then q ++ [n] else q) ↔ (if asks then .queued else e) = .queued)
    ∧ ∀ k, k ≠ n → (k ∈ (if asks ∧ e ≠ .queued then q ++ [n] else q) ↔ k ∈ q) := by
  by_cases ha : asks <;> by_cases he : e = .queued
  · simp [ha, he, hn, hq]
  · simp only [ha, he, ne_eq, not_false_eq_true, and_self, if_true]
    exact ⟨nodup_joined hn fun h => he (hq.1 h), by simp, fun k hk => by simp [hk]⟩
  · simp [ha, he, hn, hq]
  · simp [ha, he, hn, hq]

/-! ## The reviews (R113, R114) -/

/-- A FLAGGED record stays sound when it is reviewed and its slot leaves the chain. -/
theorem RecordSound.review {route : RouteState} {live : Settings} {ev : EvalUnit} {chain : List Nat} {n : Nat} {r : Record}
    (h : RecordSound route live ev chain n r) (hf : r.state = .flagged) :
    RecordSound route live ev (chain.filter (· != n)) n r.reviewed := by
  rw [reviewed_eq]
  obtain ⟨hread, hsig, hnone, hresult, hdone, hres, -, -⟩ := h.holds
  have hsome : r.reading.isSome = true := hread.2 (.inr (.inl hf))
  refine ⟨h.inRange, ⟨⟨fun _ => .inr (.inr rfl), fun _ => hsome⟩, hsig, hnone, hresult, hdone, fun _ => hres (.inl hf),
    fun _ => ?_, fun _ hr => (by cases hr)⟩, ?_, h.queued, ⟨fun hm => ?_, fun hr => (by cases hr)⟩, h.running, h.done,
    h.snapshot⟩
  · rw [Option.isSome_map]
    exact hres (.inl hf)
  · have hallowed := h.allowed
    rw [hf] at hallowed
    show route.allows .reviewed
    cases route <;> simp_all [RouteState.allows]
  · simp at hm

theorem reviewed_carrier (r : Record) : r.reviewed.carrier = r.carrier := by
  rw [reviewed_eq]
  exact Prod.ext (isCarried_superseded r.upload) (blockCode_superseded r.upload)

theorem State.Live.review (h : s.Live []) {slot : Nat} {r : Record} (hr : s.recordAt slot = some r) (hf : r.state = .flagged) :
    (afterReview slot r s).Live [] := by
  have hsound := h.records.each slot r hr
  have hseg : r.segment < 1024 := Nat.lt_succ_of_le hsound.inRange.2.2.2.1
  have hstate : r.reviewed.state = .reviewed := by rw [reviewed_eq]
  have hrseg : r.reviewed.segment = r.segment := by rw [reviewed_eq]
  have hid : r.reviewed.meterId = r.meterId := by rw [reviewed_eq]
  have heval : r.reviewed.eval = r.eval := by rw [reviewed_eq]
  have hcount : 0 < (s.segAt r.segment).flagged := by
    rw [show (s.segAt r.segment).flagged = _ from (h.segments.each _ hseg).flagged]
    exact countNaming_pos (fun r => decide (r.state = .flagged)) hr (decide_eq_true hf)
  exact { h with
    roster := h.roster.write hr hid
    records := h.records.write (chain' := s.chain.filter (· != slot)) (recordAt_setRecord slot _ s) (hsound.review hf)
      h.records.queueNodup (fun _ _ => Iff.rfl)
      (h.records.chainNodup.filter _) (fun k hk => by simp [hk]) (fun _ _ _ _ _ => rfl)
      (h.records.computation_write (recordAt_setRecord slot _ s) fun q hq he => by
        obtain rfl := Option.some.inj (hr.symm.trans hq)
        rwa [heval])
    segments := h.segments.reflag (r' := r.reviewed) h.roster.rising hr hseg hrseg (by rw [hf]; decide) (by rw [hstate]; decide)
      (by rw [if_pos hf, if_neg (by rw [hstate]; decide)]; exact Nat.sub_add_cancel hcount)
    blocks := h.blocks.of_carriers (carrier_write hr (recordAt_setRecord slot _ s) (reviewed_carrier r)) }

/-- The view of a record has 47 bytes, whatever the record. -/
theorem Record.view_length (r : Record) (slot : Nat) : (r.view slot).length = 47 := by
  simp [Record.view, Record.image]

theorem reviewSlot_lawful (h : s.Live []) {slot : Nat} {r : Record} (hr : s.recordAt slot = some r) (hf : r.state = .flagged) :
    Lawful (reviewSlot slot r s) :=
  (h.review hr hf).reply .ok (by rw [Record.view_length]; decide)

theorem commandReview_lawful (args : List Byte) (h : s.Live []) : Lawful (commandReview args s) := by
  unfold commandReview
  dsimp only
  split
  · exact h.reply _ (by simp)
  · rename_i r hn
    obtain ⟨-, hr, -⟩ := named_iff.1 hn
    split
    · rename_i hf
      exact reviewSlot_lawful h hr hf
    · exact h.reply _ (by simp)

/-- A slot of the chain holds a FLAGGED record. -/
theorem State.Live.chain_record (h : s.Live loose) {slot : Nat} (hm : slot ∈ s.chain) :
    ∃ r, s.recordAt slot = some r ∧ r.state = .flagged := by
  obtain ⟨r, hr⟩ := h.records.chainSlots slot hm
  exact ⟨r, hr, (h.records.each slot r hr).flagged.1 hm⟩

theorem commandReviewHead_lawful (args : List Byte) (h : s.Live []) : Lawful (commandReviewHead args s) := by
  unfold commandReviewHead
  split
  · exact h.reply _ (by simp)
  · rename_i slot rest hc
    obtain ⟨r, hr, hf⟩ := h.chain_record (slot := slot) (by rw [hc]; exact List.mem_cons_self)
    rw [hr]
    exact reviewSlot_lawful h hr hf

theorem commandFlagRead_lawful (args : List Byte) (h : s.Live []) : Lawful (commandFlagRead args s) := by
  unfold commandFlagRead
  dsimp only
  split
  · exact h.reply _ (by simp)
  · rename_i slot hc
    obtain ⟨r, hr, -⟩ := h.chain_record (List.mem_of_getElem? hc)
    rw [hr]
    exact h.reply _ (by simp [Record.view_length])

/-! ## REEVALUATE (R27) -/

/-- A sound record with a reading stays sound when it is bumped, superseded and QUEUED. -/
theorem RecordSound.reevaluate {route : RouteState} {live : Settings} {ev ev' : EvalUnit} {chain : List Nat} {n : Nat} {r : Record}
    (h : RecordSound route live ev chain n r) (hx : r.reading.isSome = true) (hq : n ∈ ev'.queue) :
    RecordSound route live ev' chain n { r.bump.supersede with eval := .queued } := by
  rw [supersede_eq]
  obtain ⟨hread, hsig, -, hresult, -, hres, hrev, hcar⟩ := h.holds
  refine ⟨h.inRange, ⟨hread, hsig, ⟨fun hn => (by cases hn), fun hn => ?_⟩, hresult, fun hd => (by cases hd), hres, hrev,
    fun hc => hcar ((isCarried_superseded r.upload).symm.trans hc)⟩, h.allowed, ⟨fun _ => rfl, fun _ => hq⟩, h.flagged,
    fun hd => (by cases hd), fun _ _ hd => (by cases hd), fun _ _ hd => (by cases hd)⟩
  have hn : r.reading = none := hn
  rw [hn] at hx
  cases hx

theorem commandReevaluate_lawful (args : List Byte) (h : s.Live []) : Lawful (commandReevaluate args s) := by
  unfold commandReevaluate
  dsimp only
  split
  · exact h.reply _ (by simp)
  · rename_i r hn
    obtain ⟨-, hr, -⟩ := named_iff.1 hn
    split
    · rename_i hx
      generalize fieldAt args 0 2 = slot at hr ⊢
      have hsound := h.records.each slot r hr
      have heval : r.bump.supersede.eval = r.eval := by rw [supersede_eq]; rfl
      obtain ⟨hnodup, hmem, hother⟩ := queue_asked h.records.queueNodup hsound.queued True
      have hqueue : (if r.bump.supersede.eval = .queued then s.eval.queue else s.eval.queue ++ [slot])
          = if True ∧ r.eval ≠ .queued then s.eval.queue ++ [slot] else s.eval.queue := by
        rw [heval]
        by_cases he : r.eval = .queued <;> simp [he]
      rw [requestEval_setRecord, hqueue]
      have hmem' := hmem.2 (if_pos trivial)
      refine State.Live.reply (h.write (r' := { r.bump.supersede with eval := .queued }) hr ?_ ?_ ?_ ?_ ?_) .ok (by simp)
      · rw [supersede_eq]; rfl
      · rw [supersede_eq]; rfl
      · rw [supersede_eq]; rfl
      · rw [supersede_eq]
        exact Prod.ext (isCarried_superseded r.upload) (blockCode_superseded r.upload)
      · exact h.records.write (recordAt_setRecord slot _ s) (hsound.reevaluate hx hmem') hnodup hother h.records.chainNodup
          (fun _ _ => Iff.rfl) (fun _ _ _ _ _ => rfl)
          (h.records.computation_write (recordAt_setRecord slot _ s) fun _ _ _ => .inr rfl)
    · exact h.reply _ (by simp)

end Sys2Proof.Machine

/-! PROOFS. The channel inputs and the take keep the laws of a running part. -/

namespace Sys2Proof.Machine

variable {s : State} {loose : List Nat}

/-! ## Channels (R48, R55, R59) -/

theorem Stats.inRange_iff (c : Stats) : c.inRange ↔ ∀ k, c.value k ≤ 65535 := by
  constructor
  · rintro ⟨h1, h2, h3, h4, h5, h6, h7, h8, h9, h10, h11, h12, h13⟩ k
    cases k <;> assumption
  · exact fun h => ⟨h .framesIn, h .crcFail, h .formatError, h .overrun, h .routeInactive, h .unknown, h .kindMismatch,
      h .invalidReading, h .badReading, h .stale, h .repeats, h .conflict, h .accepted⟩

theorem Stats.inRange.raise {c : Stats} (h : c.inRange) (k : Counter) : (c.raise k).inRange := by
  rw [Stats.inRange_iff] at h ⊢
  intro j
  have := h j
  rw [value_raise]
  split <;> omega

/-- A channel replaced by one in its ranges, in GAP_WAIT if it is disabled. -/
theorem channelLaw_set (h : s.channelLaw) {ch : Fin 4} {c : Channel} (hc : c.inRange)
    (hrx : s.store.live.enables.get ch = false → c.rx = .gapWait) :
    ({ s with channels := s.channels.set ch c } : State).channelLaw := by
  intro i
  by_cases hi : i = ch
  · rw [hi]
    show ((s.channels.set ch c).get ch).inRange ∧ (_ → ((s.channels.set ch c).get ch).rx = _)
    rw [get_set_same]
    exact ⟨hc, hrx⟩
  · show ((s.channels.set ch c).get i).inRange ∧ (_ → ((s.channels.set ch c).get i).rx = _)
    rw [get_set_other _ _ hi]
    exact h i

theorem State.Live.setChannel (h : s.Live loose) {ch : Fin 4} {c : Channel} (hc : c.inRange)
    (hrx : s.store.live.enables.get ch = false → c.rx = .gapWait) :
    ({ s with channels := s.channels.set ch c } : State).Live loose :=
  { h with channel := channelLaw_set h.channel hc hrx }

theorem State.Live.countOn (h : s.Live loose) (ch : Fin 4) (k : Counter) : (countOn ch k s).Live loose := by
  obtain ⟨⟨hlen, hwords, hcount, hbytes, hword, hstats⟩, hrx⟩ := h.channel ch
  exact h.setChannel ⟨hlen, hwords, hcount, hbytes, hword, hstats.raise k⟩ hrx

/-- A word that passes every test of Table 3-2 is a good one, and the FIFO has room for it (R52, R55). -/
theorem judgeWord_framesIn {w : Assembling} {held : Nat} (h : judgeWord w held = .framesIn) :
    w.count = 14 ∧ bitsOf (byteAt w.bytes 0) 7 4 = 0xA ∧ airCrcMatches w.bytes = true ∧ held < 8 := by
  unfold judgeWord at h
  split at h
  · cases h
  · rename_i hcount
    split at h
    · cases h
    · rename_i hformat
      split at h
      · cases h
      · rename_i hcrc
        split at h
        · cases h
        · rename_i hroom
          exact ⟨by omega, not_not.1 hformat, by simpa using hcrc, Nat.lt_of_not_le hroom⟩

theorem State.Live.wordArrival (h : s.Live loose) (ch : Fin 4) : (wordArrival ch s).Live loose := by
  obtain ⟨⟨hlen, hwords, hcount, hbytes, -, hstats⟩, hrx⟩ := h.channel ch
  have hset (k : Counter) (hk : judgeWord (s.channels.get ch).word (s.channels.get ch).fifo.length = k) :=
    h.setChannel (ch := ch)
      (c := { s.channels.get ch with
        word := {}
        fifo := if k = .framesIn then (s.channels.get ch).fifo ++ [(s.channels.get ch).word.bytes]
          else (s.channels.get ch).fifo
        stats := (s.channels.get ch).stats.raise k })
      (by
        by_cases hf : k = .framesIn
        · obtain ⟨h14, hformat, hcrc, hroom⟩ := judgeWord_framesIn (hk.trans hf)
          simp only [if_pos hf]
          refine ⟨by rw [List.length_append]; exact hroom, fun w hw => ?_, Nat.zero_le _, rfl, fun _ => rfl, hstats.raise _⟩
          rcases List.mem_append.1 hw with hw | hw
          · exact hwords w hw
          · obtain rfl := List.mem_singleton.1 hw
            exact ⟨by rw [hbytes, h14]; rfl, hformat, hcrc⟩
        · simp only [if_neg hf]
          exact ⟨hlen, hwords, Nat.zero_le _, rfl, fun _ => rfl, hstats.raise _⟩)
      hrx
  unfold Machine.wordArrival
  dsimp only
  split
  · exact (hset _ rfl).raise _
  · exact hset _ rfl

theorem State.Live.channelGap (h : s.Live loose) {ch : Fin 4} (he : s.store.live.enables.get ch = true) :
    (channelGap ch s).Live loose := by
  cases hr : (s.channels.get ch).rx with
  | gapWait =>
    obtain ⟨⟨hlen, hwords, -, -, -, hstats⟩, -⟩ := h.channel ch
    rw [channelGap_gapWait hr]
    exact h.setChannel ⟨hlen, hwords, Nat.zero_le _, rfl, fun hg => (by cases hg), hstats⟩ fun hd => absurd (he.symm.trans hd) (by decide)
  | assembling =>
    rw [channelGap_assembling hr]
    split
    · exact h
    · exact h.wordArrival ch

/-- Bytes at a channel keep it in its ranges. -/
theorem Channel.inRange.bytes {c : Channel} (h : c.inRange) (bytes : List RxByte) :
    (bytes.foldl Channel.byte c).inRange ∧ (bytes.foldl Channel.byte c).rx = c.rx := by
  cases hr : c.rx with
  | gapWait => rw [foldl_byte_gapWait hr]; exact ⟨h, hr⟩
  | assembling =>
    obtain ⟨hlen, hwords, hcount, hbytes, -, hstats⟩ := h
    have hpush := foldl_push bytes hcount hbytes
    rw [foldl_byte_assembling hr]
    refine ⟨⟨hlen, hwords, ?_, ?_, fun hg => absurd (hr.symm.trans hg) (by decide), hstats⟩, hr⟩
    · show (bytes.foldl Assembling.push c.word).count ≤ 15
      rw [hpush]
      exact Nat.min_le_left _ _
    · show (bytes.foldl Assembling.push c.word).bytes.length = min 14 (bytes.foldl Assembling.push c.word).count
      rw [hpush]
      simp only [List.length_take, List.length_append, List.length_map]
      omega

theorem execWordEndGap_lawful (h : s.Laws) (ch : Fin 4) : Lawful (execWordEndGap ch s) := by
  unfold execWordEndGap
  split
  · rename_i hrx
    obtain ⟨hs, he⟩ := rxEnable_iff.1 hrx
    exact ((h.live hs).channelGap he).lawful
  · exact ⟨s, rfl, h⟩

theorem execChannelWordArrival_lawful (h : s.Laws) (ch : Fin 4) (bytes : List RxByte) :
    Lawful (execChannelWordArrival ch bytes s) := by
  unfold execChannelWordArrival
  split
  · rename_i hrx
    obtain ⟨hs, he⟩ := rxEnable_iff.1 hrx
    obtain ⟨hc, hrx⟩ := h.channel ch
    obtain ⟨hc', hrx'⟩ := hc.bytes bytes
    exact (State.Live.channelGap (s := onChannel ch (fun c => bytes.foldl Channel.byte c) s)
      ((h.live hs).setChannel hc' fun hd => hrx'.trans (hrx hd)) he).lawful
  · exact ⟨s, rfl, h⟩

/-! ## A take on its record (R67) -/

/-- A word that is heard and not accepted is a repeat of a reading the record holds (R75). -/
theorem heard_accepted {w : AirWord} {r : Record} {m : Nat} (hh : (verdictOf w r m).isHeard = true) :
    (verdictOf w r m).isAccepted = true ∨ r.reading.isSome = true := by
  cases hx : r.reading with
  | some x => exact .inr rfl
  | none =>
    refine .inl ?_
    unfold verdictOf at hh ⊢
    rw [hx] at hh ⊢
    split at hh
    · cases hh
    · rename_i h1
      rw [if_neg h1]
      split at hh
      · cases hh
      · rename_i h2
        rw [if_neg h2]
        split at hh
        · cases hh
        · rename_i h3
          rw [if_neg h3]
          rfl

/-- An accepted word has a value below the modulus (R73). -/
theorem accepted_value {w : AirWord} {r : Record} {m : Nat} (ha : (verdictOf w r m).isAccepted = true) : w.value < m := by
  unfold verdictOf at ha
  split at ha
  · cases ha
  · split at ha
    · cases ha
    · split at ha
      · cases ha
      · rename_i hm
        exact Nat.lt_of_not_le hm

/-- The signal after a word stays in its range (R81). -/
theorem signalAfter_inRange {old : Option Signal} {k rssi : Nat} (hk : k ≤ 31) (hr : rssi ≤ 255)
    (ho : ∀ g ∈ old, g.best ≤ 255 ∧ g.smoothed ≤ 255) :
    (signalAfter old k rssi).best ≤ 255 ∧ (signalAfter old k rssi).smoothed ≤ 255 := by
  cases old with
  | none => exact ⟨hr, hr⟩
  | some g =>
    obtain ⟨hbest, hsmooth⟩ := ho g rfl
    obtain ⟨-, -, hle⟩ := smoothStep_spec g.smoothed rssi hk
    exact ⟨Nat.max_le.2 ⟨hbest, hr⟩, hle.trans (Nat.max_le.2 ⟨hsmooth, hr⟩)⟩

section
variable {live : Settings} {ev : EvalUnit} {chain : List Nat} {n : Nat} {r : Record} {w : AirWord} {ch : Fin 4} {clock : Nat}

/-- The record after a take is in its ranges (R78 to R81). -/
theorem takenRecord_inRange (hl : live.inRange) (hr : r.inRange (modulusOf (live.profileAt r.profile).digits))
    (hclock : clock ≤ 16777215) (hrssi : w.rssi ≤ 255) :
    (takenRecord w (verdictOf w r (modulusOf (live.profileAt r.profile).digits)) ch clock (live.profileAt r.profile).smoothing
      r).inRange (modulusOf (live.profileAt r.profile).digits) := by
  obtain ⟨hid, hid', hprofile, hseg, hbase, hage, hband, hband', hhear, hreading, hsignal, hresult⟩ := hr
  obtain ⟨-, -, -, hk, -⟩ := hl.profileAt r.profile
  rw [takenRecord_eq ch clock _ Iff.rfl Iff.rfl Iff.rfl]
  refine ⟨hid, hid', hprofile, hseg, hbase, hage, hband, hband', ?_, fun x hx => ?_, fun g hg => ?_, hresult⟩
  · show (if _ then _ else _) ≤ 255
    split
    · exact Nat.min_le_left _ _
    · exact hhear
  · have hx : (if (verdictOf w r (modulusOf (live.profileAt r.profile).digits)).isAccepted = true
      then some ({ value := w.value, seq := w.seq, tRead := clock, channel := ch } : Reading) else r.reading) = some x := hx
    split at hx
    · rename_i ha
      obtain rfl := Option.some.inj hx
      exact ⟨accepted_value ha, hclock⟩
    · exact hreading x hx
  · have hg : (if (verdictOf w r (modulusOf (live.profileAt r.profile).digits)).isHeard = true
      then some (signalAfter r.signal (live.profileAt r.profile).smoothing w.rssi) else r.signal) = some g := hg
    split at hg
    · obtain rfl := Option.some.inj hg
      exact signalAfter_inRange hk hrssi hsignal
    · exact hsignal g hg

/-- The record after a take holds what its states say (R3, R78, R89). -/
theorem takenRecord_holds {m k : Nat} (hr : r.holdsByState) (hn : r.state ≠ .notRead) :
    (takenRecord w (verdictOf w r m) ch clock k r).holdsByState := by
  obtain ⟨hread, hsig, hnone, hresult, hdone, hres, hrev, hcar⟩ := hr
  have hb : takeBumps w (verdictOf w r m) r = true ↔ (verdictOf w r m).isAccepted = true
      ∨ (r.latched ||| latchesOf w (verdictOf w r m) ≠ r.latched ∧ r.reading.isSome = true) := by
    rw [takeBumps_iff, Verdict.isAccepted_iff]
  have hheard := heard_accepted (w := w) (r := r) (m := m)
  rw [takenRecord_eq ch clock k Iff.rfl Iff.rfl Iff.rfl]
  by_cases ha : (verdictOf w r m).isAccepted = true
  · have hh : (verdictOf w r m).isHeard = true := Verdict.isHeard_iff.2 (.inl (Verdict.isAccepted_iff.1 ha))
    have hbumps := hb.2 (.inl ha)
    simp only [ha, hh, hbumps, if_true, true_and]
    refine ⟨⟨fun _ => ?_, fun _ => rfl⟩, rfl, ⟨fun h => (by cases h), fun h => (by cases h)⟩, fun _ => rfl,
      fun h => (by cases h), fun h => hres ?_, fun h => hrev ?_, fun hc h => ?_⟩
    · show (if _ then _ else _) = _ ∨ (if _ then _ else _) = _ ∨ (if _ then _ else _) = _
      split
      · exact .inl rfl
      · cases hst : r.state <;> simp_all
    · by_cases hx : r.state = .expected <;> simp_all
    · by_cases hx : r.state = .expected <;> simp_all
    · by_cases hx : r.state = .expected
      · simp only [hx, if_true] at h
        cases h
      · simp only [hx, if_false] at h
  · have ha' : (verdictOf w r m).isAccepted = false := by simpa using ha
    have hsome : (verdictOf w r m).isHeard = true → r.reading.isSome = true := fun hh => (hheard hh).resolve_left ha
    simp only [ha', Bool.false_eq_true, if_false, false_and]
    refine ⟨hread, ?_, ?_, hresult, fun h => ?_, hres, hrev, fun hc => hcar ?_⟩
    · show (if _ then _ else _ : Option Signal).isSome = _
      split
      · rename_i hh
        rw [hsome hh]
        rfl
      · exact hsig
    · show (if _ then _ else _) = _ ↔ _
      split
      · rename_i hbumps
        have := ((hb.1 hbumps).resolve_left ha).2
        exact ⟨fun h => (by cases h), fun h => by rw [show r.reading = none from h] at this; cases this⟩
      · exact hnone
    · have h : (if _ then _ else _) = EvalState.done := h
      split at h
      · cases h
      · exact hdone h
    · have hc : UploadMark.isCarried (if _ then _ else _) = true := hc
      split at hc
      · rename_i h
        exact h.2
      · exact hc

theorem takenRecord_carrier {v : Verdict} {k : Nat} : (takenRecord w v ch clock k r).carrier = r.carrier := by
  rw [takenRecord_eq ch clock k Iff.rfl Iff.rfl Iff.rfl]
  by_cases hb : takeBumps w v r = true
  · simp only [hb, true_and]
    exact Prod.ext (isCarried_superseded r.upload) (blockCode_superseded r.upload)
  · simp only [hb]
    rfl

/-- The record after a take is sound in an ACTIVE route, with its slot in the queue when the take bumps it. -/
theorem RecordSound.taken {k : Nat} {q : List Nat} (hl : live.inRange) (h : RecordSound .active live ev chain n r)
    (hk : k = (live.profileAt r.profile).smoothing) (hclock : clock ≤ 16777215) (hrssi : w.rssi ≤ 255)
    (hq : n ∈ q ↔ (if takeBumps w (verdictOf w r (modulusOf (live.profileAt r.profile).digits)) r = true then .queued else r.eval)
      = EvalState.queued) :
    RecordSound .active live { ev with queue := q } chain n
      (takenRecord w (verdictOf w r (modulusOf (live.profileAt r.profile).digits)) ch clock k r) := by
  subst hk
  have hrange := takenRecord_inRange (ch := ch) hl h.inRange hclock hrssi
  have hholds := takenRecord_holds (w := w) (ch := ch) (clock := clock) (m := modulusOf (live.profileAt r.profile).digits)
    (k := (live.profileAt r.profile).smoothing) h.holds h.allowed
  generalize hv : verdictOf w r (modulusOf (live.profileAt r.profile).digits) = v at hrange hholds hq ⊢
  have hquiet (hb : ¬ takeBumps w v r = true) (hx : r.reading.isSome = true) :
      v.isAccepted = false ∧ r.latched ||| latchesOf w v = r.latched := by
    simpa [takeBumps, hx] using hb
  rw [takenRecord_eq ch clock _ Iff.rfl Iff.rfl Iff.rfl] at hrange hholds ⊢
  refine ⟨hrange, hholds, ?_, hq, Iff.trans h.flagged ?_, fun he => ?_, fun x hx he => ?_, fun x hx he c hc => ?_⟩
  · show (if _ then _ else _) ≠ _
    split
    · decide
    · exact h.allowed
  · show _ ↔ (if _ then _ else _) = _
    split
    · rename_i hst
      rw [hst.2]
      decide
    · rfl
  · have he : (if _ then _ else _) = EvalState.running := he
    split at he
    · cases he
    · exact h.running he
  · have he : (if _ then _ else _) = EvalState.done := he
    split at he
    · cases he
    · rename_i hb
      obtain ⟨y, hy⟩ := h.holds.reading (by rw [he]; decide)
      obtain ⟨ha, hlatch⟩ := hquiet hb (by rw [hy]; rfl)
      have hx : (if v.isAccepted = true then _ else r.reading) = some x := hx
      rw [ha] at hx
      obtain ⟨p, hp⟩ := h.done x hx he
      refine ⟨p, hp.trans ?_⟩
      simp only [snapshotOf, hlatch, hb]
      rfl
  · have he : (if _ then _ else _) = EvalState.running := he
    split at he
    · cases he
    · rename_i hb
      obtain ⟨y, hy⟩ := h.holds.reading (by rw [he]; decide)
      obtain ⟨ha, hlatch⟩ := hquiet hb (by rw [hy]; rfl)
      have hx : (if v.isAccepted = true then _ else r.reading) = some x := hx
      rw [ha] at hx
      obtain ⟨p, hp⟩ := h.snapshot x hx he c hc
      refine ⟨p, hp.trans ?_⟩
      simp only [snapshotOf, hlatch, hb]
      rfl

end

end Sys2Proof.Machine

/-! PROOFS. A take keeps the laws of a running part: its record, its segment, its channel. -/

namespace Sys2Proof.Machine

variable {s : State} {loose : List Nat}

/-! ## A member's first reading -/

/-- The counts of a segment when one of its records, in EXPECTED, becomes one that is neither EXPECTED nor FLAGGED. -/
theorem countIn_heard {slots : List (Nat × Record)} {n : Nat} {r r' : Record} (hs : tableRising slots = true)
    (hr : tableGet slots n = some r) (hseg : r'.segment = r.segment) (hst : r.state = .expected) (hst' : r'.state ≠ .expected)
    (hst'' : r'.state ≠ .flagged) :
    countIn (tablePut slots n r') r.segment (fun _ => true) = countIn slots r.segment (fun _ => true)
    ∧ countIn (tablePut slots n r') r.segment (fun st => decide (st ≠ .expected))
        = countIn slots r.segment (fun st => decide (st ≠ .expected)) + 1
    ∧ countIn (tablePut slots n r') r.segment (fun st => decide (st = .flagged))
        = countIn slots r.segment (fun st => decide (st = .flagged)) := by
  have hown (p : RecState → Bool) : countIn (tablePut slots n r') r.segment p + (if p r.state = true then 1 else 0)
      = countIn slots r.segment p + (if p r'.state = true then 1 else 0) := by
    have h' := countIn_put r' hs hr r.segment p
    rwa [Record.bit_own, ← hseg, Record.bit_own, hseg] at h'
  have h1 := hown (fun _ => true)
  have h2 := hown (fun st => decide (st ≠ .expected))
  have h3 := hown (fun st => decide (st = .flagged))
  rw [if_pos rfl] at h1
  rw [if_neg (by simp [hst]), if_pos (by simp [hst'])] at h2
  rw [if_neg (by simp [hst]), if_neg (by simp [hst''])] at h3
  omega

/-- The record of another segment leaves the counts of a segment. -/
theorem countIn_put_other {slots : List (Nat × Record)} {n m : Nat} {r r' : Record} (hs : tableRising slots = true)
    (hr : tableGet slots n = some r) (hm : m ≠ r.segment) (hm' : m ≠ r'.segment) (p : RecState → Bool) :
    countIn (tablePut slots n r') m p = countIn slots m p := by
  have h := countIn_put r' hs hr m p
  rwa [Record.bit_other hm, Record.bit_other hm'] at h

/-- The entry of a segment that owes readings and hears one of its members: it completes when that was the last (R79, R125). -/
theorem EntrySound.heard {route : RouteState} {covered : Bool} {c c' : (RecState → Bool) → Nat} {e : SegEntry}
    (h : EntrySound route covered c e) (hroute : route ≠ .closed) (howes : e.state.owes = true) (hu : e.read < e.members)
    (hc : c' (fun _ => true) = c (fun _ => true)
      ∧ c' (fun st => decide (st ≠ .expected)) = c (fun st => decide (st ≠ .expected)) + 1
      ∧ c' (fun st => decide (st = .flagged)) = c (fun st => decide (st = .flagged))) :
    EntrySound route covered c' (if e.read + 1 = e.members then { e with read := e.read + 1, state := .complete, deadline := none }
      else { e with read := e.read + 1 }) := by
  obtain ⟨hmembers, hread, hflagged⟩ := hc
  have hm := h.members
  have hr := h.read
  have hg := h.flagged
  split
  · rename_i hlast
    exact ⟨hm.trans hmembers.symm, (congrArg (· + 1) hr).trans hread.symm, hg.trans hflagged.symm,
      fun _ => ⟨Nat.zero_lt_of_lt hu, hlast⟩, fun hcl => absurd hcl hroute, ⟨fun hd => (by cases hd), fun hst => (by cases hst)⟩,
      h.visited, h.unvisited⟩
  · rename_i hlast
    refine ⟨hm.trans hmembers.symm, (congrArg (· + 1) hr).trans hread.symm, hg.trans hflagged.symm, fun hcl => ?_,
      fun hcl => absurd hcl hroute, h.deadline, h.visited, h.unvisited⟩
    have hf := h.fits hcl
    have hlt : e.read + 1 < e.members := by omega
    unfold SegEntry.fits at hf ⊢
    cases hst : e.state <;> simp only [hst, SegState.owes, Bool.false_eq_true] at hf howes ⊢
    · exact ⟨hlt, hf.2⟩
    · exact ⟨hlt, hf.2⟩
    · exact ⟨hlt, hf.2⟩
    · exact ⟨hlt, hf.2⟩
    · exact ⟨hlt, hf.2⟩

theorem segsCanonical_completeIfRead {n : Nat} (hn : n < 1024) (h : segsCanonical s.seg.table) :
    segsCanonical (completeIfRead n s).seg.table := by
  rcases completeIfRead_cases n s with ⟨-, -, -, hc⟩ | ⟨-, hc⟩ <;> rw [hc]
  · exact segsCanonical_putSeg (table := s.seg.table) h hn { s.segAt n with state := .complete, deadline := none }
  · exact h

/-- A first reading keeps the segments sound, with the roster in which its record was read. -/
theorem SegmentsSound.heard {t : State} {n : Nat} {slots : List (Nat × Record)} (h : SegmentsSound s.seg s.route.state slots)
    (hroute : s.route.state ≠ .closed) (hn : n < 1024)
    (howes : (s.segAt n).state.owes = true) (hu : (s.segAt n).read < (s.segAt n).members) (ht : t = segRead n s)
    {slots' : List (Nat × Record)}
    (hc : countIn slots' n (fun _ => true) = countIn slots n (fun _ => true)
      ∧ countIn slots' n (fun st => decide (st ≠ .expected)) = countIn slots n (fun st => decide (st ≠ .expected)) + 1
      ∧ countIn slots' n (fun st => decide (st = .flagged)) = countIn slots n (fun st => decide (st = .flagged)))
    (hother : ∀ m, m ≠ n → ∀ p, countIn slots' m p = countIn slots m p) :
    SegmentsSound t.seg s.route.state slots' := by
  have hcanonical : segsCanonical t.seg.table := by
    rw [ht]
    exact segsCanonical_completeIfRead (s := setSeg n _ s) hn (segsCanonical_putSeg h.canonical hn _)
  obtain ⟨hframe, hentry, hentries⟩ := segRead_hears (completes := (s.segAt n).read + 1 = (s.segAt n).members) Iff.rfl hu howes
  rw [← ht] at hframe hentry hentries
  have hseg : t.seg = { s.seg with
      table := t.seg.table
      revisit := if (s.segAt n).read + 1 = (s.segAt n).members then s.seg.revisit.filter (fun m => m != n)
        else s.seg.revisit } := congrArg State.seg hframe
  have hrevisit := congrArg Segments.revisit hseg
  have hstaged : t.seg.staged = s.seg.staged := by rw [hseg]
  have happlied : t.seg.applied = s.seg.applied := by rw [hseg]
  refine h.change hn hcanonical hstaged happlied ?_ hentries hother ?_ ?_
  · rw [show entryIn t.seg.table n = _ from hentry]
    exact (h.each n hn).heard hroute howes hu hc
  · rw [hrevisit]
    dsimp only
    split
    · exact h.revisitNodup.filter _
    · exact h.revisitNodup
  · rw [hrevisit, show entryIn t.seg.table n = _ from hentry]
    dsimp only
    split
    · exact revisit_left (by simp)
    · exact h.revisit_kept hn Iff.rfl

/-! ## The take -/

theorem takenRecord_id {w : AirWord} {v : Verdict} {ch : Fin 4} {clock k : Nat} {r : Record} :
    (takenRecord w v ch clock k r).meterId = r.meterId ∧ (takenRecord w v ch clock k r).segment = r.segment
    ∧ (takenRecord w v ch clock k r).state = if v.isAccepted = true ∧ r.state = .expected then .read else r.state := by
  rw [takenRecord_eq ch clock k Iff.rfl Iff.rfl Iff.rfl]
  exact ⟨rfl, rfl, rfl⟩

/-- The record's, the queue's and the channel's part of a take, beside segments that are sound with the roster it leaves. -/
theorem State.Live.takeRecord (h : s.Live loose) (ha : s.route.state = .active) {ch : Fin 4} {w : AirWord} (hw : w.rssi ≤ 255)
    {slot : Nat} {r : Record} (hr : s.recordAt slot = some r) {seg : Segments} {causes : BitVec 8} {pulse : Nat}
    (hsegs : SegmentsSound seg s.route.state (takeRecord ch w slot r s).roster.slots) (hpulse : pulse ≤ 5) :
    ({ takeRecord ch w slot r s with seg := seg, port.causes := causes, lines.pulse := pulse } : State).Live loose := by
  have hsound := h.records.each slot r hr
  obtain ⟨-, -, -, -, -, -, -, hclock, -⟩ := h.route
  let p := s.store.live.profileAt r.profile
  let v := verdictOf w r (modulusOf p.digits)
  let r' := takenRecord w v ch s.route.clock p.smoothing r
  obtain ⟨hid, -, -⟩ : r'.meterId = r.meterId ∧ _ := takenRecord_id
  obtain ⟨hnodup, hmem, hothers⟩ := queue_asked h.records.queueNodup hsound.queued (takeBumps w v r = true)
  have hget := recordAt_setRecord slot r' s
  have htaken : RecordSound s.route.state s.store.live
      { s.eval with
        queue := if takeBumps w v r = true ∧ r.eval ≠ .queued then s.eval.queue ++ [slot] else s.eval.queue }
      s.chain slot r' := by
    rw [ha] at hsound ⊢
    exact hsound.taken h.settings.1 rfl hclock hw hmem
  have heval : r'.eval = if takeBumps w v r = true then .queued else r.eval := by
    show (takenRecord w v ch s.route.clock p.smoothing r).eval = _
    rw [takenRecord_eq ch _ _ Iff.rfl Iff.rfl Iff.rfl]
  exact { h with
    roster := h.roster.write hr hid
    records := h.records.write hget htaken hnodup hothers h.records.chainNodup (fun _ _ => Iff.rfl) (fun _ _ _ _ _ => rfl)
      (h.records.computation_write hget fun q hq he => by
        obtain rfl := Option.some.inj (hr.symm.trans hq)
        rw [heval]
        split
        · exact .inr rfl
        · exact he)
    segments := hsegs
    blocks := h.blocks.of_carriers (carrier_write hr hget takenRecord_carrier)
    channel := (h.countOn ch v.counter).channel
    port := ⟨h.port.1, h.port.2.1, hpulse⟩ }

theorem State.Live.take (h : s.Live loose) (ha : s.route.state = .active) {ch : Fin 4} {w : AirWord} (hw : w.rssi ≤ 255)
    {slot : Nat} {r : Record} (hr : s.recordAt slot = some r) : (matchRecord ch w slot r s).Live loose := by
  obtain ⟨-, -, -, hseg, -⟩ := (h.records.each slot r hr).inRange
  let v := verdictOf w r (modulusOf (s.store.live.profileAt r.profile).digits)
  obtain ⟨-, hrseg, hrstate⟩ := takenRecord_id (w := w) (v := v) (ch := ch) (clock := s.route.clock)
    (k := (s.store.live.profileAt r.profile).smoothing) (r := r)
  have hslots : (Machine.takeRecord ch w slot r s).roster.slots = tablePut s.roster.slots slot
    (takenRecord w v ch s.route.clock (s.store.live.profileAt r.profile).smoothing r) := rfl
  rw [matchRecord_eq]
  by_cases hfirst : v.isAccepted = true ∧ r.state = .expected
  · rw [if_pos hfirst]
    rw [if_pos hfirst] at hrstate
    have hn : r.segment < 1024 := Nat.lt_succ_of_le hseg
    have hentry := h.segments.each _ hn
    have hu : (s.segAt r.segment).read < (s.segAt r.segment).members := by
      rw [show (s.segAt r.segment).read = _ from hentry.read, show (s.segAt r.segment).members = _ from hentry.members]
      exact countNaming_lt (fun r => decide (r.state ≠ .expected)) hr (by simp [hfirst.2])
    have howes := owes_of_fits (hentry.fits (by rw [ha]; decide)) hu
    have hcounts := countIn_heard h.roster.rising hr hrseg hfirst.2 (by rw [hrstate]; decide) (by rw [hrstate]; decide)
    have hsegs : SegmentsSound (segRead r.segment (Machine.takeRecord ch w slot r s)).seg s.route.state
        (Machine.takeRecord ch w slot r s).roster.slots :=
      h.segments.heard (s := Machine.takeRecord ch w slot r s)
        (by rw [show (Machine.takeRecord ch w slot r s).route.state = _ from ha]; decide) hn howes hu rfl hcounts
        fun m hm p => countIn_put_other h.roster.rising hr hm (by rwa [hrseg]) p
    obtain ⟨hframe, -, -⟩ := segRead_hears (s := Machine.takeRecord ch w slot r s)
      (completes := (s.segAt r.segment).read + 1 = (s.segAt r.segment).members) Iff.rfl hu howes
    generalize segRead r.segment (Machine.takeRecord ch w slot r s) = t at hframe hsegs ⊢
    rw [hframe] at hsegs ⊢
    refine h.takeRecord ha hw hr hsegs ?_
    split
    · exact Nat.le_refl 5
    · exact h.port.2.2
  · rw [if_neg hfirst]
    rw [if_neg hfirst] at hrstate
    exact h.takeRecord ha hw hr (h.segments.recount (hslots ▸ countIn_write h.roster.rising hr hrseg hrstate)) h.port.2.2

theorem airWordOf_rssi (bs : List Byte) : (airWordOf bs).rssi ≤ 255 := Nat.le_of_lt_succ (byteAt bs 13).isLt

theorem execTake_lawful (h : s.Laws) : Lawful (execTake s) := by
  by_cases hs : s.listens
  · cases hch : s.nextChannel with
    | none =>
      rw [execTake, if_pos (awake_of_listens hs), hch]
      exact ⟨s, rfl, h⟩
    | some ch =>
      have hfound := List.find?_some hch
      obtain ⟨word, rest, hf⟩ : ∃ word rest, (s.channels.get ch).fifo = word :: rest :=
        List.exists_cons_of_ne_nil (by simpa using hfound)
      rw [execTake_made hs hch hf]
      obtain ⟨⟨hlen, hwords, hcount, hbytes, hword, hstats⟩, hrx⟩ := h.channel ch
      have htaken : (afterTaking ch s).Live [] := by
        have hset := (h.live hs).setChannel (ch := ch) (c := { s.channels.get ch with fifo := (s.channels.get ch).fifo.tail })
          ⟨by rw [List.length_tail]; omega, fun w hw => hwords w (List.mem_of_mem_tail hw), hcount, hbytes, hword, hstats⟩ hrx
        exact { hset with }
      by_cases hmeets : s.route.state ≠ .active ∨ s.lookup (airWordOf word).meterId = none
      · rw [matchWord_unmet (s := afterTaking ch s) hmeets]
        exact (htaken.countOn ch _).lawful
      · obtain ⟨ha, hl⟩ := not_or.1 hmeets
        obtain ⟨slot, hl⟩ := Option.ne_none_iff_exists'.1 hl
        obtain ⟨r, hr, -⟩ := lookup_sound hl
        rw [matchWord_meets (s := afterTaking ch s) (not_not.1 ha) hl hr]
        exact (htaken.take (not_not.1 ha) (airWordOf_rssi word) hr).lawful
  · rw [execTake, if_neg (by rw [awake_eq_false hs]; decide)]
    exact ⟨s, rfl, h⟩

end Sys2Proof.Machine

/-! PROOFS. Records that come and go: how the laws of the roster, the records, the segments and the blocks carry over. -/

namespace Sys2Proof.Machine

/-! ## The slot and the way of a new record (R1, R8) -/

/-- No more keys lie below the first gap than the table lists. -/
theorem firstGap_le_length {α : Type} (n : Nat) (m : List (Nat × α)) : firstGap n m ≤ n + m.length := by
  induction m generalizing n with
  | nil => exact Nat.le_refl n
  | cons e t ih =>
    simp only [firstGap, List.length_cons]
    split
    · have := ih (n + 1)
      omega
    · omega

/-- The lowest empty way of a bucket: it is empty, and every lower one is taken (R8). -/
theorem freeWay_some {index : List (Nat × Nat)} {bucket way : Nat} (h : freeWay index bucket = some way) :
    way < 8 ∧ tableGet index (8 * bucket + way) = none ∧ ∀ w, w < way → tableGet index (8 * bucket + w) ≠ none := by
  obtain ⟨hnone, i, hi, hway, hbefore⟩ := List.find?_eq_some_iff_getElem.1 h
  have hi8 : i < 8 := by simpa [Config.wayCount] using hi
  simp only [List.getElem_range] at hway hbefore
  subst hway
  refine ⟨hi8, Option.isNone_iff_eq_none.1 hnone, fun w hw hn => ?_⟩
  have := hbefore w hw
  rw [Bool.not_eq_true', Option.isNone_eq_false_iff] at this
  rw [show tableGet index (wayKey bucket w) = none from hn] at this
  cases this

theorem freeWay_eq_none {index : List (Nat × Nat)} {bucket : Nat} :
    freeWay index bucket = none ↔ ∀ w, w < 8 → tableGet index (8 * bucket + w) ≠ none := by
  simp [freeWay, Config.wayCount, wayKey]

/-- The bucket of an identifier is the low eleven bits of its hash (R7). -/
theorem bucketOf_eq (id : Word) : bucketOf id = ((id ^^^ (id >>> 11) ^^^ (id >>> 22)).toNat) % 2048 := by
  unfold bucketOf
  generalize id ^^^ (id >>> 11) ^^^ (id >>> 22) = x
  rw [BitVec.toNat_and]
  exact Nat.and_two_pow_sub_one_eq_mod x.toNat 11

theorem bucketOf_lt (id : Word) : bucketOf id < 2048 := by
  rw [bucketOf_eq]
  exact Nat.mod_lt _ (by decide)

/-! ## Lookups (R9, R10) -/

/-- A lookup finds a slot exactly when the record in it has the identifier (R9). -/
theorem lookup_iff {s : State} (h : s.roster.Sound) {id : Word} {slot : Nat} :
    s.lookup id = some slot ↔ ∃ r, s.recordAt slot = some r ∧ r.meterId = id := by
  refine ⟨lookup_sound, fun ⟨r, hr, hid⟩ => ?_⟩
  obtain ⟨w, hw⟩ := List.length_eq_one_iff.1 (h.oneWay slot r hr)
  obtain ⟨hmem, hslot⟩ := List.mem_filter.1 (hw ▸ List.mem_singleton_self w : w ∈ _)
  have hslot : w.2 = slot := by simpa using hslot
  obtain ⟨q, hq, hb⟩ := h.wayNames w hmem
  rw [hslot] at hq
  obtain rfl := Option.some.inj (hr.symm.trans hq)
  have hway : s.wayMatch id (w.1 % 8) = some slot := by
    have hkey : wayKey (bucketOf id) (w.1 % 8) = w.1 := by
      rw [← hid, ← hb]
      exact Nat.div_add_mod w.1 8
    have hget : tableGet s.roster.index w.1 = some slot :=
      tableGet_of_mem h.indexRising (hslot ▸ hmem)
    simp only [State.wayMatch, hkey, hget, hr, if_pos hid]
  have hfound : (s.lookup id).isSome = true := by
    unfold State.lookup
    rw [List.findSome?_isSome_iff]
    exact ⟨w.1 % 8, List.mem_range.2 (Nat.mod_lt _ (by decide)), by rw [hway]; rfl⟩
  obtain ⟨n, hn⟩ := Option.isSome_iff_exists.1 hfound
  obtain ⟨q, hq, hqid⟩ := lookup_sound hn
  rw [hn, h.oneSlot n slot q r hq hr (hqid.trans hid.symm)]

/-! ## The roster -/

/-- Reading a table after a write. -/
theorem tableGet_put {α : Type} (m : List (Nat × α)) (k n : Nat) (v : α) :
    tableGet (tablePut m k v) n = if n = k then some v else tableGet m n := by
  split
  · rename_i h
    rw [h, tableGet_put_same]
  · rename_i h
    exact tableGet_put_other m v h

/-- Reading a table after a removal. -/
theorem tableGet_del {α : Type} (m : List (Nat × α)) (k n : Nat) :
    tableGet (tableDel m k) n = if n = k then none else tableGet m n := by
  split
  · rename_i h
    rw [h, tableGet_del_same]
  · rename_i h
    exact tableGet_del_other m h

/-- A record comes into a free slot, with an empty way of its bucket, under an identifier that no record has. -/
theorem Roster.Sound.insert {ro : Roster} (h : ro.Sound) {slot way : Nat} {r : Record} (hfree : tableGet ro.slots slot = none)
    (hslot : slot < 8192) (hway : way < 8) (hempty : tableGet ro.index (8 * bucketOf r.meterId + way) = none)
    (hnew : ∀ n q, tableGet ro.slots n = some q → q.meterId ≠ r.meterId) :
    Roster.Sound { slots := tablePut ro.slots slot r, index := tablePut ro.index (8 * bucketOf r.meterId + way) slot } := by
  have hb := bucketOf_lt r.meterId
  have hnone : ∀ w ∈ ro.index, w.2 ≠ slot := fun w hw hs => by
    obtain ⟨q, hq, -⟩ := h.wayNames w hw
    rw [hs, hfree] at hq
    cases hq
  refine ⟨tableRising_put _ _ h.rising, fun e he => ?_, tableRising_put _ _ h.indexRising, fun w hw => ?_, ?_, ?_, fun w hw => ?_⟩
  · rcases mem_tablePut he with rfl | he
    · exact hslot
    · exact h.keys e he
  · rcases mem_tablePut hw with rfl | hw
    · show 8 * bucketOf r.meterId + way < 16384
      omega
    · exact h.indexKeys w hw
  · intro n m p q hp hq hid
    rw [tableGet_put] at hp hq
    split at hp <;> split at hq
    · rename_i hn hm
      exact hn.trans hm.symm
    · obtain rfl := Option.some.inj hp
      exact absurd hid.symm (hnew m q hq)
    · obtain rfl := Option.some.inj hq
      exact absurd hid (hnew n p hp)
    · exact h.oneSlot n m p q hp hq hid
  · intro n q hq
    rw [length_filter_put_free _ hempty]
    rw [tableGet_put] at hq
    split at hq
    · rename_i hn
      have hnil : ro.index.filter (fun w => w.2 == n) = [] :=
        List.filter_eq_nil_iff.2 fun w hw => by simpa [hn] using hnone w hw
      rw [hnil]
      simp [hn]
    · rename_i hn
      rw [h.oneWay n q hq]
      simp [Ne.symm hn]
  · rcases mem_tablePut hw with rfl | hw
    · exact ⟨r, tableGet_put_same _ _ _, by show (8 * bucketOf r.meterId + way) / 8 = _; omega⟩
    · obtain ⟨q, hq, hbq⟩ := h.wayNames w hw
      exact ⟨q, by rw [tableGet_put_other _ _ (hnone w hw)]; exact hq, hbq⟩

/-- A record leaves its slot and its way. -/
theorem Roster.Sound.delete {ro : Roster} (h : ro.Sound) (slot : Nat) :
    Roster.Sound { slots := tableDel ro.slots slot, index := ro.index.filter (fun w => w.2 != slot) } := by
  have hget {n : Nat} {q : Record} (hq : tableGet (tableDel ro.slots slot) n = some q) :
      n ≠ slot ∧ tableGet ro.slots n = some q := by
    rw [tableGet_del] at hq
    split at hq
    · cases hq
    · rename_i hn
      exact ⟨hn, hq⟩
  refine ⟨tableRising_del _ h.rising, fun e he => h.keys e (List.mem_filter.1 he).1, tableRising_filter _ h.indexRising,
    fun w hw => h.indexKeys w (List.mem_filter.1 hw).1, fun n m p q hp hq => ?_, fun n q hq => ?_, fun w hw => ?_⟩
  · exact h.oneSlot n m p q (hget hp).2 (hget hq).2
  · obtain ⟨hn, hq⟩ := hget hq
    rw [← h.oneWay n q hq, List.filter_filter]
    congr 1
    refine List.filter_congr fun w _ => ?_
    by_cases hw : w.2 = n <;> simp [hw, hn]
  · obtain ⟨hw, hne⟩ := List.mem_filter.1 hw
    obtain ⟨q, hq, hb⟩ := h.wayNames w hw
    exact ⟨q, by rw [tableGet_del_other _ (by simpa using hne)]; exact hq, hb⟩

theorem rosterSound_empty : Roster.Sound {} :=
  ⟨rfl, List.forall_mem_nil _, rfl, List.forall_mem_nil _, fun _ _ _ _ h => (by cases h), fun _ _ h => (by cases h),
    List.forall_mem_nil _⟩

/-! ## The records -/

section
variable {get get' : Nat → Option Record} {route route' : RouteState} {live live' : Settings} {ev : EvalUnit} {chain : List Nat}

/-- A record comes into a free slot, neither QUEUED nor RUNNING nor FLAGGED. -/
theorem RecordsSound.insert (h : RecordsSound get route live ev chain) {n : Nat} {r : Record} (hfree : get n = none)
    (hget : ∀ k, get' k = if k = n then some r else get k) (hrange : r.inRange (modulusOf (live.profileAt r.profile).digits))
    (hholds : r.holdsByState) (hallowed : route.allows r.state) (hst : r.state ≠ .flagged) (he : r.eval = .none) :
    RecordsSound get' route live ev chain := by
  have hnotin {l : List Nat} (hl : ∀ k ∈ l, ∃ q, get k = some q) : n ∉ l := fun hm => by
    obtain ⟨q, hq⟩ := hl n hm
    rw [hfree] at hq
    cases hq
  refine h.write hget ?_ h.queueNodup (fun _ _ => Iff.rfl) h.chainNodup (fun _ _ => Iff.rfl) (fun _ _ _ _ _ => rfl)
    (h.computation_write hget fun q hq => ?_)
  · exact {
      inRange := hrange
      holds := hholds
      allowed := hallowed
      queued := ⟨fun hm => absurd hm (hnotin h.queueSlots), fun hq => absurd (he.symm.trans hq) (by decide)⟩
      flagged := ⟨fun hm => absurd hm (hnotin h.chainSlots), fun hf => absurd hf hst⟩
      running := fun hr => absurd (he.symm.trans hr) (by decide)
      done := fun _ _ hd => absurd (he.symm.trans hd) (by decide)
      snapshot := fun _ _ hr => absurd (he.symm.trans hr) (by decide) }
  · rw [hfree] at hq
    cases hq

/-- A record departs: off the queue and the chain, and a running computation of it marked (R90, R115). -/
theorem RecordsSound.delete (h : RecordsSound get route live ev chain) {n : Nat}
    (hget : ∀ k, get' k = if k = n then none else get k) :
    RecordsSound get' route live (departEval n ev) (chain.filter (· != n)) := by
  have hkept {k : Nat} {r : Record} (hr : get' k = some r) : k ≠ n ∧ get k = some r := by
    rw [hget] at hr
    split at hr
    · cases hr
    · rename_i hk
      exact ⟨hk, hr⟩
  have hlisted {l : List Nat} (hl : ∀ k ∈ l, ∃ r, get k = some r) : ∀ k ∈ l.filter (· != n), ∃ r, get' k = some r :=
    fun k hk => by
      obtain ⟨hk, hne⟩ := List.mem_filter.1 hk
      rw [hget, if_neg (by simpa using hne)]
      exact hl k hk
  refine ⟨fun k r hr => ?_, h.queueNodup.filter _, hlisted h.queueSlots, h.chainNodup.filter _, hlisted h.chainSlots,
    fun c hc => ?_⟩
  · obtain ⟨hk, hr⟩ := hkept hr
    refine (h.each k r hr).other (by simp [departEval, hk]) (by simp [hk]) fun he => ?_
    obtain ⟨c, hc, hslot, -⟩ := (h.each k r hr).running he
    have hne : c.slot ≠ n := fun hn => hk (hslot.symm.trans hn)
    simp [departEval, hc, hne]
  · obtain ⟨c', hc', rfl⟩ := Option.map_eq_some_iff.1 hc
    have hcs := h.computation c' hc'
    split
    · exact { hcs with record := fun hd => by cases hd }
    · rename_i hne
      refine hcs.of_get fun r _ hr he => ⟨r, ?_, he⟩
      rw [hget, if_neg hne]
      exact hr

/-- With no record in the roster the route state and the settings do not bear on the records. -/
theorem RecordsSound.of_none (h : RecordsSound get route live ev chain) (hnone : ∀ n, get n = none) :
    RecordsSound get route' live' ev chain :=
  { h with each := fun n r hr => absurd ((hnone n).symm.trans hr) (by simp) }

/-- After a roster clear (R90): nothing queued, nothing flagged, a running computation marked. -/
theorem RecordsSound.clear (h : RecordsSound get route live ev chain) (hnone : ∀ n, get' n = none) :
    RecordsSound get' route' live' (clearEval ev) [] := by
  refine ⟨fun n r hr => absurd ((hnone n).symm.trans hr) (by simp), List.nodup_nil, List.forall_mem_nil _, List.nodup_nil,
    List.forall_mem_nil _, fun c hc => ?_⟩
  obtain ⟨c', hc', rfl⟩ := Option.map_eq_some_iff.1 hc
  exact { h.computation c' hc' with record := fun hd => by cases hd }

end

/-! ## The segments -/

/-- The Segment Tracker in its empty form, with no record. -/
theorem segmentsSound_empty {route : RouteState} (h : route ≠ .closed) : SegmentsSound {} route [] := by
  have hz : ({} : Windows).inRange := ⟨Nat.zero_le _, Nat.zero_le _, Nat.zero_le _, Nat.zero_le _⟩
  refine ⟨⟨rfl, List.forall_mem_nil _⟩, fun n _ => ?_, List.nodup_nil, fun n => ⟨fun hm => (by cases hm), fun hm => ?_⟩, hz, hz,
    fun _ => rfl, fun _ _ => rfl⟩
  · have hc : ({} : Segments).applied.covers n = false := covers_zero n
    rw [hc]
    exact ⟨rfl, rfl, rfl, fun _ => rfl, fun hcl => absurd hcl h, ⟨fun hd => (by cases hd), fun hd => (by cases hd)⟩,
      fun hd => (by cases hd), fun _ _ => rfl⟩
  · cases hm.2

/-! ## The outstanding blocks -/

section
variable {loose loose' : List Nat} {u u' : Upload} {get get' : Nat → Option Record} {l : LinkState}

/-- One slot outside the Outstanding Table stops being carried: its record is returned, or leaves. -/
theorem BlocksSound.unload (h : BlocksSound loose u get l) {n : Nat} (hget : ∀ k, k ≠ n → get' k = get k)
    (hn : ∀ r, get' n = some r → r.upload.isCarried = false) (htable : ∀ o ∈ u.table, n ∉ o.slots)
    (hsub : loose'.Sublist loose) (hmem : ∀ k, k ∈ loose' ↔ k ∈ loose ∧ k ≠ n) : BlocksSound loose' u get' l :=
  { h with
    nodup := h.nodup.sublist (hsub.append (List.Sublist.refl _))
    each := fun o ho =>
      { h.each o ho with
        carries := fun k hk => by
          rw [hget k fun hkn => htable o ho (hkn ▸ hk)]
          exact (h.each o ho).carries k hk }
    carriers := fun k r hr hc => by
      by_cases hkn : k = n
      · rw [hkn] at hr
        rw [hn r hr] at hc
        cases hc
      · rw [hget k hkn] at hr
        exact (h.carriers k r hr hc).imp_left fun hl => (hmem k).2 ⟨hl, hkn⟩
    loose := fun k hk => by
      obtain ⟨hl, hkn⟩ := (hmem k).1 hk
      rw [hget k hkn]
      exact h.loose k hl }

/-- A record that is not carried stands in no block. -/
theorem BlocksSound.not_listed (h : BlocksSound loose u get l) {n : Nat}
    (hn : ∀ r, get n = some r → r.upload.isCarried = false) : n ∉ loose ∧ ∀ o ∈ u.table, n ∉ o.slots := by
  refine ⟨fun hl => ?_, fun o ho hs => ?_⟩
  · obtain ⟨r, hr, hc⟩ := h.loose n hl
    rw [hn r hr] at hc
    cases hc
  · obtain ⟨r, hr, hc, -⟩ := (h.each o ho).carries n hs
    rw [hn r hr] at hc
    cases hc

/-- A record that is not carried comes, goes or changes. -/
theorem BlocksSound.touch (h : BlocksSound loose u get l) {n : Nat} (hget : ∀ k, k ≠ n → get' k = get k)
    (hn : ∀ r, get n = some r → r.upload.isCarried = false) (hn' : ∀ r, get' n = some r → r.upload.isCarried = false) :
    BlocksSound loose u get' l := by
  obtain ⟨hloose, htable⟩ := h.not_listed hn
  exact h.unload hget hn' htable (List.Sublist.refl _) fun k =>
    ⟨fun hk => ⟨hk, fun hkn => hloose (hkn ▸ hk)⟩, And.left⟩

/-- The counts and the state of the engine change, its table not. -/
theorem BlocksSound.recount (h : BlocksSound loose u get l) (htable : u'.table = u.table) (hstate : u'.state = u.state)
    (hcounts : u'.counts) : BlocksSound loose u' get l := by
  obtain ⟨hmost, hnodup, heach, hcarriers, hloose, hidle, hlocked, hbusy, -⟩ := h
  exact ⟨htable ▸ hmost, htable ▸ hnodup, htable ▸ heach, htable ▸ hcarriers, hloose, by rw [hstate, htable]; exact hidle,
    htable ▸ hlocked, hstate ▸ hbusy, hcounts⟩

/-- With no block out, no record carried. -/
theorem BlocksSound.of_none (h : BlocksSound [] u get l) (ht : u.table = []) (hget : ∀ n r, get' n = some r → r.upload.isCarried = false) :
    BlocksSound [] u get' l :=
  { h with
    each := by rw [ht]; exact List.forall_mem_nil _
    carriers := fun n r hr hc => absurd ((hget n r hr).symm.trans hc) (by decide)
    loose := List.forall_mem_nil _ }

/-- The scan cursor moved past the end (R182). -/
theorem BlocksSound.passOver (h : BlocksSound loose u get l) : BlocksSound loose u.passOver get l := by
  unfold Upload.passOver
  split
  · exact h.recount rfl rfl ⟨fun _ hn => (by cases hn), h.counts.2⟩
  · exact h

end

end Sys2Proof.Machine

/-! PROOFS. A segment that gains or loses a member: what it does, and that the segments stay sound. -/

namespace Sys2Proof.Machine

/-! ## A segment that gains a member (R123, R127 to R129) -/

/-- The state of a segment that gained a record in state `st` (R127, R128, R129). -/
def SegEntry.gained (e : SegEntry) (covered : Bool) (st : RecState) : SegState :=
  if st = .expected then e.afterGain covered else if e.state = .vacant then .complete else e.state

/-- The entry with a record in state `st` added to its counts (R123). -/
def SegEntry.plus (e : SegEntry) (st : RecState) : SegEntry :=
  { e with
    members := e.members + 1
    read := if st = .expected then e.read else e.read + 1
    flagged := if st = .flagged then e.flagged + 1 else e.flagged }

/-- The gain of a record in state `st` makes the segment MISSED (R127). -/
abbrev SegEntry.missesWith (e : SegEntry) (covered : Bool) (st : RecState) : Prop :=
  st = .expected ∧ e.gained covered st = .missed ∧ e.state ≠ .missed

/-- A record in state `st` added to a segment, with the segment settled; nothing else changes but the Revisit List and the cause
of a segment that becomes MISSED (R123, R127, R129, R142, R146). -/
def SegmentGained (n : Nat) (st : RecState) (s t : State) : Prop :=
  let e := s.segAt n
  let covered := s.seg.applied.covers n
  t = { s with
      seg := { s.seg with
        table := t.seg.table
        revisit := if e.missesWith covered st then s.seg.revisit ++ [n] else s.seg.revisit }
      port.causes := if e.missesWith covered st then s.port.causes ||| attSegmentMissed else s.port.causes }
  ∧ t.segAt n = { e.plus st with state := e.gained covered st }
  ∧ ∀ m, m ≠ n → t.segAt m = s.segAt m

/-- The record counted, before the segment is settled. -/
def counted (n : Nat) (st : RecState) (s : State) : State := setSeg n ((s.segAt n).plus st) s

@[simp] theorem segAt_counted (n m : Nat) (st : RecState) (s : State) :
    (counted n st s).segAt m = if m = n then (s.segAt n).plus st else s.segAt m :=
  segAt_setSeg _ _ _ _

/-- A segment that gains a member is counted, and then settled by the order of R124, completed, or left in its state. -/
theorem segGain_eq (n : Nat) (r : Record) (s : State) :
    segGain n r s
      = if r.state = .expected then
          if (s.segAt n).state = .vacant ∨ (s.segAt n).state = .complete then settleByOrder n (counted n r.state s)
          else counted n r.state s
        else if (s.segAt n).state = .vacant then setSeg n { (s.segAt n).plus r.state with state := .complete } (counted n r.state s)
        else counted n r.state s := by
  have hdef : segGain n r s
      = if r.state = .expected then
          match (s.segAt n).state with
          | .vacant | .complete => settleByOrder n (counted n r.state s)
          | .pending | .active | .trailing | .missed | .waived | .closed => counted n r.state s
        else if (s.segAt n).state = .vacant then setSeg n { (s.segAt n).plus r.state with state := .complete } (counted n r.state s)
        else counted n r.state s := rfl
  rw [hdef]
  cases (s.segAt n).state <;> simp

/-- A settled entry that is not newly MISSED. -/
theorem segmentGained_of_entry {n : Nat} {st : RecState} {s t : State} (hframe : t = { s with seg.table := t.seg.table })
    (hm : ¬ (s.segAt n).missesWith (s.seg.applied.covers n) st)
    (hentry : t.segAt n = { (s.segAt n).plus st with state := (s.segAt n).gained (s.seg.applied.covers n) st })
    (hother : ∀ m, m ≠ n → t.segAt m = s.segAt m) : SegmentGained n st s t := by
  simp only [SegmentGained, if_neg hm]
  exact ⟨hframe, hentry, hother⟩

/-- The gain of a member in a segment that has no more read than members, and no deadline in VACANT and COMPLETE. -/
theorem segGain_gains {n : Nat} {r : Record} {s : State} (hle : (s.segAt n).read ≤ (s.segAt n).members)
    (hd : (s.segAt n).state = .vacant ∨ (s.segAt n).state = .complete → (s.segAt n).deadline = none) :
    SegmentGained n r.state s (segGain n r s) := by
  have hcounted (st : RecState) (m : Nat) (hm : m ≠ n) : (counted n st s).segAt m = s.segAt m := by rw [segAt_counted, if_neg hm]
  rw [segGain_eq]
  by_cases hx : r.state = .expected
  · rw [if_pos hx, hx]
    by_cases hst : (s.segAt n).state = .vacant ∨ (s.segAt n).state = .complete
    · rw [if_pos hst]
      have hentry : (counted n .expected s).segAt n = (s.segAt n).plus .expected := by rw [segAt_counted, if_pos rfl]
      have hgained : (s.segAt n).gained (s.seg.applied.covers n) .expected
          = if s.seg.applied.covers n = true then .active else if (s.segAt n).visited = true then .missed else .pending := by
        rw [SegEntry.gained, if_pos rfl, SegEntry.afterGain]
        rcases hst with hst | hst <;> rw [hst]
      have hne : (s.segAt n).state ≠ .missed := by rcases hst with hst | hst <;> rw [hst] <;> decide
      have hsettle : settleByOrder n (counted n .expected s)
          = if s.seg.applied.covers n = true then setSeg n { (s.segAt n).plus .expected with state := .active } (counted n .expected s)
            else if (s.segAt n).visited = true then missSeg n (counted n .expected s)
            else setSeg n { (s.segAt n).plus .expected with state := .pending } (counted n .expected s) := by
        have hmembers : ((s.segAt n).plus .expected).members ≠ 0 := Nat.succ_ne_zero _
        have hunread : ((s.segAt n).plus .expected).members - ((s.segAt n).plus .expected).read ≠ 0 := by
          show (s.segAt n).members + 1 - (s.segAt n).read ≠ 0
          omega
        simp only [settleByOrder, hentry, if_neg hmembers, if_neg hunread]
        refine if_congr Iff.rfl rfl ?_
        cases hv : (s.segAt n).visited <;> simp [SegEntry.plus, hv]
      rw [hsettle]
      by_cases hc : s.seg.applied.covers n = true
      · rw [if_pos hc]
        rw [if_pos hc] at hgained
        exact segmentGained_of_entry rfl (fun ⟨_, hm, _⟩ => by rw [hgained] at hm; cases hm)
          (by rw [segAt_setSeg, if_pos rfl, hgained]) fun m hm => by rw [segAt_setSeg, if_neg hm, hcounted _ m hm]
      · rw [if_neg hc]
        rw [if_neg hc] at hgained
        by_cases hv : (s.segAt n).visited = true
        · rw [if_pos hv] at hgained ⊢
          have hm : (s.segAt n).missesWith (s.seg.applied.covers n) .expected := ⟨rfl, hgained, hne⟩
          simp only [SegmentGained, if_pos hm, missSeg_eq]
          refine ⟨rfl, ?_, fun m hmn => ?_⟩
          · show (setSeg n _ (counted n .expected s)).segAt n = _
            rw [segAt_setSeg, if_pos rfl, hentry, hgained]
            simp only [SegEntry.plus, hd hst]
          · show (setSeg n _ (counted n .expected s)).segAt m = _
            rw [segAt_setSeg, if_neg hmn, hcounted _ m hmn]
        · rw [if_neg hv] at hgained ⊢
          exact segmentGained_of_entry rfl (fun ⟨_, hm, _⟩ => by rw [hgained] at hm; cases hm)
            (by rw [segAt_setSeg, if_pos rfl, hgained]) fun m hm => by rw [segAt_setSeg, if_neg hm, hcounted _ m hm]
    · rw [if_neg hst]
      have hgained : (s.segAt n).gained (s.seg.applied.covers n) .expected = (s.segAt n).state := by
        rw [SegEntry.gained, if_pos rfl, SegEntry.afterGain]
        cases he : (s.segAt n).state <;> simp_all
      exact segmentGained_of_entry rfl (fun ⟨_, hm, hne⟩ => hne (hgained.symm.trans hm))
        (by rw [segAt_counted, if_pos rfl, hgained]; rfl) (hcounted _)
  · rw [if_neg hx]
    have hno : ¬ (s.segAt n).missesWith (s.seg.applied.covers n) r.state := fun h => hx h.1
    by_cases hst : (s.segAt n).state = .vacant
    · rw [if_pos hst]
      exact segmentGained_of_entry rfl hno (by rw [segAt_setSeg, if_pos rfl, SegEntry.gained, if_neg hx, if_pos hst])
        fun m hm => by rw [segAt_setSeg, if_neg hm, hcounted _ m hm]
    · rw [if_neg hst]
      exact segmentGained_of_entry rfl hno (by rw [segAt_counted, if_pos rfl, SegEntry.gained, if_neg hx, if_neg hst]; rfl) (hcounted _)

/-! ## The segments stay sound -/

section
variable {route : RouteState} {covered : Bool} {c c' : (RecState → Bool) → Nat} {e : SegEntry} {st : RecState}

/-- What Table 7-3 says of an entry depends on its counts only by whether some member is unread, and whether there is any. -/
theorem SegEntry.fits.of_counts {e' : SegEntry} (h : e.fits covered) (hst : e'.state = e.state) (hv : e'.visited = e.visited)
    (hnone : e.members = 0 → e'.members = 0) (hsome : e.read < e.members → e'.read < e'.members)
    (hall : 0 < e.members → e.read = e.members → 0 < e'.members ∧ e'.read = e'.members) : e'.fits covered := by
  unfold SegEntry.fits at *
  rw [hst, hv]
  cases hs : e.state <;> rw [hs] at h
  case vacant => exact hnone h
  case complete => exact hall h.1 h.2
  case closed => exact h
  all_goals exact ⟨hsome h.1, h.2⟩

/-- The entry of a segment that gained a record (R123, R124, R127). -/
theorem EntrySound.gain (h : EntrySound route covered c e) (hroute : route ≠ .closed) (hle : e.read ≤ e.members)
    (hc : ∀ p, c' p = c p + if p st = true then 1 else 0) :
    EntrySound route covered c' { e.plus st with state := e.gained covered st } := by
  have hm := h.members
  have hr := h.read
  have hg := h.flagged
  have hf := h.fits hroute
  have hd := h.deadline
  refine ⟨?_, ?_, ?_, fun _ => ?_, fun hcl => absurd hcl hroute, ?_, h.visited, h.unvisited⟩
  · rw [hc, if_pos rfl, ← hm]
    rfl
  · rw [hc, ← hr]
    show (if _ then _ else _) = _
    by_cases hx : st = .expected <;> simp [hx]
  · rw [hc, ← hg]
    show (if _ then _ else _) = _
    by_cases hx : st = .flagged <;> simp [hx]
  · unfold SegEntry.fits SegEntry.gained SegEntry.afterGain SegEntry.plus at *
    by_cases hx : st = .expected
    · cases hs : e.state <;> cases covered <;> cases hv : e.visited <;> simp [hs, hx, hv] at hf ⊢ <;> omega
    · cases hs : e.state <;> simp [hs, hx] at hf ⊢ <;> omega
  · show _ ↔ e.gained covered st = .trailing
    rw [show (e.plus st).deadline = e.deadline from rfl, hd]
    unfold SegEntry.gained SegEntry.afterGain
    by_cases hx : st = .expected
    · cases hs : e.state <;> cases covered <;> cases hv : e.visited <;> simp [hx]
    · cases hs : e.state <;> simp [hx]

/-- The entry of a segment that lost a record (R123 to R126, R148). -/
theorem EntrySound.lose {r : Record} (h : EntrySound route covered c e) (hc : ∀ p, c' p + (if p r.state = true then 1 else 0) = c p)
    (hcounts : e.counts r) :
    EntrySound route covered c' { e.without r with
      state := if e.vacates then .vacant else if e.completesWithout r then .complete else e.state
      deadline := if e.vacates ∨ e.completesWithout r then none else e.deadline } := by
  have hm := h.members
  have hr := h.read
  have hg := h.flagged
  have hd := h.deadline
  have h1 := hc (fun _ => true)
  have h2 := hc (fun st => decide (st ≠ .expected))
  have h3 := hc (fun st => decide (st = .flagged))
  obtain ⟨hpos, hunread, -⟩ := hcounts
  rw [if_pos rfl] at h1
  refine ⟨?_, ?_, ?_, fun hroute => ?_, fun hcl => ?_, ?_, h.visited, h.unvisited⟩
  · show e.members - 1 = _
    omega
  · show (if _ then _ else _) = _
    by_cases hx : r.state = .expected
    · rw [if_pos hx]
      rw [if_neg (by simpa using hx)] at h2
      omega
    · rw [if_neg hx]
      rw [if_pos (by simpa using hx)] at h2
      omega
  · show (if _ then _ else _) = _
    by_cases hx : r.state = .flagged
    · rw [if_pos hx]
      rw [if_pos (by simpa using hx)] at h3
      omega
    · rw [if_neg hx]
      rw [if_neg (by simpa using hx)] at h3
      omega
  · have hf := h.fits hroute
    have hread : r.state ≠ .expected → 1 ≤ e.read := fun hx => by
      rw [if_pos (by simpa using hx)] at h2
      omega
    by_cases hv : e.vacates
    · simp only [SegEntry.fits, if_pos hv, SegEntry.without]
      have := hv.2
      omega
    · by_cases hk : e.completesWithout r
      · obtain ⟨hx, hopen, hmany, hlast⟩ := hk
        simp only [SegEntry.fits, if_neg hv, if_pos (⟨hx, hopen, hmany, hlast⟩ : e.completesWithout r), SegEntry.without, if_pos hx]
        omega
      · have hopen : e.state ≠ .closed := fun hs => by
          rw [SegEntry.fits, hs] at hf
          exact hf
        have hmany : 1 < e.members := by
          have : e.members ≠ 1 := fun h => hv ⟨hopen, h⟩
          omega
        have hrest : r.state = .expected → e.read + 1 < e.members := fun hx => by
          have := hunread hx
          have : e.read + 1 ≠ e.members := fun h => hk ⟨hx, hopen, hmany, h⟩
          omega
        simp only [if_neg hv, if_neg hk, if_neg (not_or.2 ⟨hv, hk⟩)]
        refine hf.of_counts rfl rfl (fun h0 => by omega) (fun hlt => ?_) fun _ heq => ?_
        · show (if _ then _ else _) < e.members - 1
          split
          · rename_i hx
            have := hrest hx
            omega
          · rename_i hx
            exact Nat.sub_lt_sub_right (hread hx) hlt
        · have hx : r.state ≠ .expected := fun hx => by
            have := hrest hx
            omega
          exact ⟨by show 0 < e.members - 1; omega, by show (if _ then _ else _) = e.members - 1; rw [if_neg hx, heq]⟩
  · rcases h.closed hcl with hs | ⟨-, h0⟩
    · have hv : ¬ e.vacates := fun hv => hv.1 hs
      have hk : ¬ e.completesWithout r := fun hk => hk.2.1 hs
      exact .inl (by simp only [if_neg hv, if_neg hk, hs])
    · omega
  · by_cases hv : e.vacates
    · simp only [if_pos hv, if_pos (Or.inl hv : e.vacates ∨ e.completesWithout r)]
      simp
    · by_cases hk : e.completesWithout r
      · simp only [if_neg hv, if_pos hk, if_pos (Or.inr hk : e.vacates ∨ e.completesWithout r)]
        simp
      · simp only [if_neg hv, if_neg hk, if_neg (not_or.2 ⟨hv, hk⟩)]
        exact hd

end

/-- A stricter test counts no more records. -/
theorem countIn_mono {slots : List (Nat × Record)} {n : Nat} {p q : RecState → Bool} (h : ∀ st, p st = true → q st = true) :
    countIn slots n p ≤ countIn slots n q :=
  (List.monotone_filter_right slots fun e he => by
    simp only [Bool.and_eq_true] at he ⊢
    exact he.imp_right (h _)).length_le

section
variable {s t : State} {route : RouteState} {slots slots' : List (Nat × Record)} {n : Nat}

theorem SegmentsSound.read_le (h : SegmentsSound s.seg route slots) (hn : n < 1024) : (s.segAt n).read ≤ (s.segAt n).members := by
  rw [show (s.segAt n).read = _ from (h.each n hn).read, show (s.segAt n).members = _ from (h.each n hn).members]
  exact countIn_mono fun _ _ => rfl

theorem SegmentsSound.no_deadline (h : SegmentsSound s.seg route slots) (hn : n < 1024)
    (hst : (s.segAt n).state = .vacant ∨ (s.segAt n).state = .complete) : (s.segAt n).deadline = none := by
  have hd : (s.segAt n).deadline.isSome = true ↔ (s.segAt n).state = .trailing := (h.each n hn).deadline
  refine Option.not_isSome_iff_eq_none.1 fun hs => ?_
  rw [hd.1 hs] at hst
  rcases hst with hst | hst <;> cases hst

theorem segsCanonical_setSeg (h : segsCanonical s.seg.table) (hn : n < 1024) (e : SegEntry) :
    segsCanonical (setSeg n e s).seg.table := segsCanonical_putSeg h hn e

theorem segsCanonical_segLose (hn : n < 1024) (h : segsCanonical s.seg.table) (r : Record) :
    segsCanonical (segLose n r s).seg.table := by
  have hu : segsCanonical (uncount n r s).seg.table := segsCanonical_setSeg h hn _
  rcases segLose_cases n r s with ⟨-, -, hs⟩ | ⟨-, -, -, hs⟩ | ⟨-, hs⟩ <;> rw [hs]
  · exact segsCanonical_setSeg (s := leaveRevisit n (uncount n r s)) hu hn _
  · exact segsCanonical_setSeg (s := leaveRevisit n (uncount n r s)) hu hn _
  · exact hu

theorem segsCanonical_settleByOrder (hn : n < 1024) (h : segsCanonical s.seg.table) :
    segsCanonical (settleByOrder n s).seg.table := by
  have hset := segsCanonical_setSeg h hn
  unfold settleByOrder
  dsimp only
  split_ifs
  · exact hset _
  · exact hset _
  · exact hset _
  · exact hset _
  · exact hset { s.segAt n with state := .missed, deadline := none }

theorem segsCanonical_segGain (hn : n < 1024) (h : segsCanonical s.seg.table) (r : Record) :
    segsCanonical (segGain n r s).seg.table := by
  have hu : segsCanonical (counted n r.state s).seg.table := segsCanonical_setSeg h hn _
  rw [segGain_eq]
  split_ifs
  · exact segsCanonical_settleByOrder hn hu
  · exact hu
  · exact segsCanonical_setSeg hu hn _
  · exact hu

/-- The segments stay sound when one of them loses a record that leaves the counts. -/
theorem SegmentsSound.lose {r : Record} (h : SegmentsSound s.seg route slots) (hn : n < 1024) (ht : SegmentLost n r s t)
    (hcanonical : segsCanonical t.seg.table) (hcounts : (s.segAt n).counts r)
    (hown : ∀ p, countIn slots' n p + (if p r.state = true then 1 else 0) = countIn slots n p)
    (hother : ∀ m, m ≠ n → ∀ p, countIn slots' m p = countIn slots m p) : SegmentsSound t.seg route slots' := by
  obtain ⟨hframe, hentry, hentries⟩ := ht
  have hseg : t.seg = { s.seg with
      table := t.seg.table
      revisit := if (s.segAt n).vacates ∨ (s.segAt n).completesWithout r then s.seg.revisit.filter (fun m => m != n)
        else s.seg.revisit } := congrArg State.seg hframe
  have hstaged : t.seg.staged = s.seg.staged := by rw [hseg]
  have happlied : t.seg.applied = s.seg.applied := by rw [hseg]
  have hrevisit := congrArg Segments.revisit hseg
  refine h.change hn hcanonical hstaged happlied ?_ hentries hother ?_ ?_
  · rw [show entryIn t.seg.table n = _ from hentry]
    exact (h.each n hn).lose hown hcounts
  · rw [hrevisit]
    dsimp only
    split
    · exact h.revisitNodup.filter _
    · exact h.revisitNodup
  · rw [hrevisit, show entryIn t.seg.table n = _ from hentry]
    dsimp only
    by_cases hv : (s.segAt n).vacates
    · simp only [if_pos hv, if_pos (Or.inl hv : (s.segAt n).vacates ∨ (s.segAt n).completesWithout r)]
      exact revisit_left (e := { (s.segAt n) with state := .vacant }) (by simp)
    · by_cases hk : (s.segAt n).completesWithout r
      · simp only [if_neg hv, if_pos hk, if_pos (Or.inr hk : (s.segAt n).vacates ∨ (s.segAt n).completesWithout r)]
        exact revisit_left (e := { (s.segAt n) with state := .complete }) (by simp)
      · simp only [if_neg hv, if_neg hk, if_neg (not_or.2 ⟨hv, hk⟩)]
        exact h.revisit_kept hn Iff.rfl

/-- The segments stay sound when one of them gains a record that joins the counts. -/
theorem SegmentsSound.gain {st : RecState} (h : SegmentsSound s.seg route slots) (hroute : route ≠ .closed) (hn : n < 1024)
    (ht : SegmentGained n st s t) (hcanonical : segsCanonical t.seg.table)
    (hown : ∀ p, countIn slots' n p = countIn slots n p + if p st = true then 1 else 0)
    (hother : ∀ m, m ≠ n → ∀ p, countIn slots' m p = countIn slots m p) : SegmentsSound t.seg route slots' := by
  obtain ⟨hframe, hentry, hentries⟩ := ht
  have hseg : t.seg = { s.seg with
      table := t.seg.table
      revisit := if (s.segAt n).missesWith (s.seg.applied.covers n) st then s.seg.revisit ++ [n] else s.seg.revisit } :=
    congrArg State.seg hframe
  have hstaged : t.seg.staged = s.seg.staged := by rw [hseg]
  have happlied : t.seg.applied = s.seg.applied := by rw [hseg]
  have hrevisit := congrArg Segments.revisit hseg
  have hnotin : (s.segAt n).state ≠ .missed → n ∉ s.seg.revisit := fun hm hmem => hm ((h.revisit n).1 hmem).2
  refine h.change hn hcanonical hstaged happlied ?_ hentries hother ?_ ?_
  · rw [show entryIn t.seg.table n = _ from hentry]
    exact (h.each n hn).gain hroute (h.read_le hn) hown
  · rw [hrevisit]
    dsimp only
    split
    · rename_i hm
      exact nodup_joined h.revisitNodup (hnotin hm.2.2)
    · exact h.revisitNodup
  · rw [hrevisit, show entryIn t.seg.table n = _ from hentry]
    dsimp only
    split
    · rename_i hm
      exact revisit_joined (e := { (s.segAt n) with state := (s.segAt n).gained (s.seg.applied.covers n) st }) hm.2.1
    · rename_i hm
      refine h.revisit_kept hn (e := { (s.segAt n) with state := (s.segAt n).gained (s.seg.applied.covers n) st }) ⟨fun hg => ?_, fun hg => ?_⟩
      · by_contra hne
        refine hm ⟨?_, hg, hne⟩
        by_contra hx
        have hg : (s.segAt n).gained (s.seg.applied.covers n) st = .missed := hg
        rw [SegEntry.gained, if_neg hx] at hg
        split at hg
        · cases hg
        · exact hne hg
      · have hg : (s.segAt n).state = .missed := hg
        show (s.segAt n).gained _ _ = _
        rw [SegEntry.gained, SegEntry.afterGain, hg]
        by_cases hx : st = .expected <;> simp [hx]

end

end Sys2Proof.Machine

/-! PROOFS. Creation, retirement, amendment and the return to EMPTY keep the laws of a running part. -/

namespace Sys2Proof.Machine

variable {s : State} {loose : List Nat}

/-! ## Creation (R8, R14, R15) -/

/-- What a candidate that passes its tests is (R14). -/
theorem validate_none {im : LoadImage} (h : validate s im = none) :
    (im.meterId ≠ 0#32 ∧ im.meterId ≠ 0xFFFFFFFF#32) ∧ im.profile ≤ 15 ∧ im.segment ≤ 1023
    ∧ im.baseline < modulusOf (s.store.live.profileAt im.profile).digits ∧ im.baselineAge ≤ 4095 ∧ im.bandLow ≤ im.bandHigh
    ∧ s.lookup im.meterId = none ∧ s.rosterCount < 8192 ∧ ∃ way, freeWay s.roster.index (bucketOf im.meterId) = some way := by
  unfold validate at h
  split_ifs at h with hid hprofile hseg hbase hband hdup hfull hway
  obtain ⟨hbase, hage⟩ := not_or.1 hbase
  refine ⟨not_or.1 hid, Nat.le_of_not_lt hprofile, Nat.le_of_not_lt hseg, Nat.lt_of_not_le hbase, Nat.le_of_not_lt hage,
    Nat.le_of_not_lt hband, ?_, Nat.lt_of_not_le hfull, ?_⟩
  · simpa using hdup
  · exact Option.ne_none_iff_exists'.1 (by simpa using hway)

/-- The value of a run of bytes is below the power of 256 of its length. -/
theorem beNat_lt (bs : List Byte) : beNat bs < 256 ^ bs.length := by
  induction bs using List.reverseRecOn with
  | nil => decide
  | append_singleton l b ih =>
    have hb := b.isLt
    rw [beNat_append]
    simp only [List.length_append, List.length_singleton, Nat.pow_succ, Nat.pow_zero, Nat.one_mul]
    have : beNat [b] = b.toNat := by simp [beNat]
    omega

theorem fieldAt_lt (bs : List Byte) (off len : Nat) : fieldAt bs off len < 256 ^ len :=
  (beNat_lt _).trans_le (Nat.pow_le_pow_right (by decide) (List.length_take_le _ _))

/-- The band of a load record image is in its range, for it is read from two bytes each. -/
theorem loadImageOf_bandHigh (bs : List Byte) : (loadImageOf bs).bandHigh ≤ 65535 :=
  Nat.le_of_lt_succ (fieldAt_lt bs 15 2)

/-- The roster with a candidate in the lowest free slot and the lowest empty way (R8, R15). -/
def withCandidate (im : LoadImage) (s : State) : State :=
  { s with
    roster := { slots := tablePut s.roster.slots s.freeSlot im.newRecord,
                index := tablePut s.roster.index
                  (wayKey (bucketOf im.meterId) ((freeWay s.roster.index (bucketOf im.meterId)).getD 0)) s.freeSlot } }

theorem createRecord_eq (im : LoadImage) (s : State) :
    createRecord im s = segGain im.segment im.newRecord (withCandidate im s) := rfl

/-- A created record holds what its states say. -/
theorem newRecord_holds (im : LoadImage) : im.newRecord.holdsByState := by
  simp [Record.holdsByState, LoadImage.newRecord, UploadMark.isCarried]

/-- The roster that a passing candidate joins stays sound. -/
theorem Roster.Sound.create (h : s.roster.Sound) {im : LoadImage} (hv : validate s im = none) :
    (withCandidate im s).roster.Sound ∧ s.recordAt s.freeSlot = none ∧ s.freeSlot < 8192 := by
  obtain ⟨-, -, -, -, -, -, hlookup, hcount, way, hway⟩ := validate_none hv
  obtain ⟨hfree, -⟩ := freeSlot_spec h.rising
  obtain ⟨hway8, hempty, -⟩ := freeWay_some hway
  have hslot : s.freeSlot < 8192 := by
    have := firstGap_le_length 0 s.roster.slots
    rw [State.rosterCount] at hcount
    rw [State.freeSlot]
    omega
  refine ⟨?_, hfree, hslot⟩
  have hnew : ∀ n q, s.recordAt n = some q → q.meterId ≠ im.meterId := fun n q hq hid => by
    have := (lookup_iff h).2 ⟨q, hq, hid⟩
    rw [hlookup] at this
    cases this
  simp only [withCandidate, hway, Option.getD_some]
  exact h.insert (r := im.newRecord) hfree hslot hway8 hempty hnew

theorem State.Live.create (h : s.Live loose) (hroute : s.route.state = .loading ∨ s.route.state = .ready ∨ s.route.state = .active)
    {im : LoadImage} (hv : validate s im = none) (hband : im.bandHigh ≤ 65535) : (createRecord im s).Live loose := by
  obtain ⟨⟨hid, hid'⟩, hprofile, hseg, hbase, hage, hbands, -⟩ := validate_none hv
  obtain ⟨hroster, hfree, -⟩ := h.roster.create hv
  have hn : im.segment < 1024 := Nat.lt_succ_of_le hseg
  have hopen : s.route.state ≠ .closed := by rcases hroute with hr | hr | hr <;> rw [hr] <;> decide
  have hallowed : s.route.state.allows .expected := by
    rcases hroute with hr | hr | hr <;> rw [hr] <;> simp [RouteState.allows]
  have hget : ∀ k, (withCandidate im s).recordAt k = if k = s.freeSlot then some im.newRecord else s.recordAt k :=
    fun k => tableGet_put _ _ _ _
  have hrecords := h.records.insert hfree hget
    ⟨hid, hid', hprofile, hseg, hbase, hage, hbands, hband, Nat.zero_le _, fun _ hx => (by cases hx), fun _ hx => (by cases hx),
      fun _ hx => (by cases hx)⟩ (newRecord_holds im) hallowed (fun hf => (by cases hf)) rfl
  have hgain := segGain_gains (n := im.segment) (r := im.newRecord) (s := withCandidate im s)
    (h.segments.read_le hn) (h.segments.no_deadline hn)
  have hsegs := SegmentsSound.gain (s := withCandidate im s) h.segments hopen hn hgain
    (segsCanonical_segGain (s := withCandidate im s) hn h.segments.canonical _) (slots' := (withCandidate im s).roster.slots)
    (fun p => by
      rw [← Record.bit_own (r := im.newRecord)]
      exact countIn_put_free im.newRecord hfree _ p)
    fun m hm p => by
      refine (countIn_put_free im.newRecord hfree m p).trans ?_
      rw [Record.bit_other (r := im.newRecord) hm, Nat.add_zero]
  rw [createRecord_eq]
  obtain ⟨hframe, -, -⟩ := hgain
  generalize segGain im.segment im.newRecord (withCandidate im s) = t at hframe hsegs ⊢
  rw [hframe] at hsegs ⊢
  exact { h with
    roster := hroster
    records := hrecords
    segments := hsegs
    blocks := h.blocks.touch (n := s.freeSlot) (fun k hk => (hget k).trans (if_neg hk))
      (fun r hr => by cases hfree.symm.trans hr) fun r hr => by
        obtain rfl := Option.some.inj (((hget s.freeSlot).trans (if_pos rfl)).symm.trans hr)
        rfl }

/-! ## Retirement and the return to EMPTY (R16, R17, R46, R182) -/

/-- A route that returns to EMPTY with no record left. -/
theorem State.Live.returnToEmpty (h : s.Live loose) (hnone : s.roster.slots = []) : (returnToEmpty s).Live loose := by
  have hget : ∀ n, s.recordAt n = none := fun n => by rw [State.recordAt, hnone]; rfl
  exact { h with
    records := h.records.of_none hget
    segments := by
      show SegmentsSound {} .empty s.roster.slots
      rw [hnone]
      exact segmentsSound_empty (by simp)
    route := ⟨fun _ => rfl, Iff.intro (fun _ => rfl) (fun _ => rfl), fun hne => absurd rfl hne, Nat.zero_le _, Nat.zero_le _,
      Nat.zero_le _, rfl, Nat.zero_le _, fun _ _ => rfl⟩
    blocks := h.blocks.passOver }

/-- The route is thrown away with no block out (R17, R38, R44). -/
theorem State.Live.discardRoute (h : s.Live []) (htable : s.upload.table = []) : (discardRoute s).Live [] := by
  have hcleared : (({ s with roster := {}, eval := clearEval s.eval, chain := [], seg := {}, route := {} } : State)).Live [] :=
    { h with
      roster := rosterSound_empty
      records := h.records.clear fun _ => rfl
      segments := segmentsSound_empty (route := .empty) (by simp)
      route := ⟨fun _ => rfl, Iff.intro (fun _ => rfl) (fun _ => rfl), fun hne => absurd rfl hne, Nat.zero_le _, Nat.zero_le _,
        Nat.zero_le _, rfl, Nat.zero_le _, fun _ _ => rfl⟩
      blocks := h.blocks.of_none htable fun _ _ hr => by cases hr }
  exact hcleared.returnToEmpty rfl

/-- The record of an occupied slot is counted in its segment. -/
theorem State.Live.counts_record (h : s.Live loose) {slot : Nat} {r : Record} (hr : s.recordAt slot = some r) :
    (s.segAt r.segment).counts r := by
  have hn : r.segment < 1024 := Nat.lt_succ_of_le (h.records.each slot r hr).inRange.2.2.2.1
  have hentry := h.segments.each _ hn
  have hmembers : (s.segAt r.segment).members = _ := hentry.members
  have hread : (s.segAt r.segment).read = _ := hentry.read
  have hpos : 1 ≤ (s.segAt r.segment).members := hmembers ▸ countNaming_pos (fun _ => true) hr rfl
  have hunread : r.state = .expected → (s.segAt r.segment).read < (s.segAt r.segment).members := fun hx => by
    rw [hmembers, hread]
    exact countNaming_lt (fun r => decide (r.state ≠ .expected)) hr (by simp [hx])
  refine ⟨hpos, hunread, fun hx hc => ?_⟩
  by_cases hclosed : s.route.state = .closed
  · rcases hentry.closed hclosed with hcl | ⟨-, h0⟩
    · exact absurd hcl hc
    · have h0 : (s.segAt r.segment).members = 0 := h0
      omega
  · exact owes_of_fits (hentry.fits hclosed) (hunread hx)

/-- A record departs, and its segment settles; the slot may be one that has been taken out of its block. -/
theorem State.Live.dropRecord (h : s.Live loose) {slot : Nat} {r : Record} (hr : s.recordAt slot = some r)
    {loose' : List Nat} (htable : ∀ o ∈ s.upload.table, slot ∉ o.slots) (hsub : loose'.Sublist loose)
    (hmem : ∀ k, k ∈ loose' ↔ k ∈ loose ∧ k ≠ slot) : (segLose r.segment r (dropSlot slot s)).Live loose' := by
  have hn : r.segment < 1024 := Nat.lt_succ_of_le (h.records.each slot r hr).inRange.2.2.2.1
  have hget : ∀ k, (dropSlot slot s).recordAt k = if k = slot then none else s.recordAt k := fun k => tableGet_del _ _ _
  have hcounts := h.counts_record hr
  have hlost : SegmentLost r.segment r (dropSlot slot s) _ := segLose_settles hcounts
  have hdel := countIn_del h.roster.rising hr
  have hsegs := SegmentsSound.lose (s := dropSlot slot s) h.segments hn hlost
    (segsCanonical_segLose (s := dropSlot slot s) hn h.segments.canonical r) hcounts
    (slots' := tableDel s.roster.slots slot)
    (fun p => by rw [← Record.bit_own (r := r)]; exact hdel _ p)
    fun m hm p => by
      have := hdel m p
      rwa [Record.bit_other hm] at this
  obtain ⟨hframe, -, -⟩ := hlost
  generalize segLose r.segment r (dropSlot slot s) = t at hframe hsegs ⊢
  rw [hframe] at hsegs ⊢
  refine { h with
    roster := h.roster.delete slot
    records := h.records.delete hget
    segments := hsegs
    blocks := h.blocks.unload (n := slot) (fun k hk => (hget k).trans (if_neg hk))
      (fun q hq => by cases ((hget slot).trans (if_pos rfl)).symm.trans hq) htable hsub hmem
    port := ⟨h.port.1, h.port.2.1, ?_⟩ }
  · show (if _ then _ else _) ≤ 5
    split
    · exact Nat.le_refl 5
    · exact h.port.2.2

/-- A retirement, of a record that stands in no block of the table (R16, R46). -/
theorem State.Live.retireSlot (h : s.Live loose) {slot : Nat} {r : Record} (hr : s.recordAt slot = some r)
    {loose' : List Nat} (htable : ∀ o ∈ s.upload.table, slot ∉ o.slots) (hsub : loose'.Sublist loose)
    (hmem : ∀ k, k ∈ loose' ↔ k ∈ loose ∧ k ≠ slot) : (retireSlot slot s).Live loose' := by
  have hdropped := h.dropRecord hr htable hsub hmem
  rw [retireSlot_eq hr]
  split
  · rename_i hlast
    refine hdropped.returnToEmpty ?_
    rw [segLose_roster]
    exact hlast.2
  · exact hdropped

end Sys2Proof.Machine

/-! PROOFS. The host's record commands keep the laws of a running part. -/

namespace Sys2Proof.Machine

variable {s : State} {loose : List Nat}

/-! ## AMEND (R24, R25) -/

/-- The selection of an AMEND holds the band or the profile, which bumps the generation (R25). -/
def amendBumps (sel : Byte) : Bool := sel.getLsbD 1 || sel.getLsbD 5

/-- The AMEND asks for an evaluation (R25). -/
abbrev amendAsks (sel : Byte) (r : Record) : Prop := amendBumps sel = true ∧ r.reading.isSome = true

/-- The record that an AMEND leaves (R25). -/
def amendedRecord (sel : Byte) (im : LoadImage) (r : Record) : Record :=
  { amended sel im r with
    generation := if amendBumps sel = true then r.generation + 1#8 else r.generation
    eval := if amendAsks sel r then .queued else r.eval }

/-- The record of an AMEND in its place, before its segments are settled. -/
def amendWritten (slot : Nat) (sel : Byte) (im : LoadImage) (r : Record) (s : State) : State :=
  { setRecord slot (amendedRecord sel im r) s with
    eval.queue := if amendAsks sel r ∧ r.eval ≠ .queued then s.eval.queue ++ [slot] else s.eval.queue }

theorem amendRecord_eq (slot : Nat) (sel : Byte) (im : LoadImage) (r : Record) (s : State) :
    amendRecord slot sel im r s
      = if (amended sel im r).segment = r.segment then amendWritten slot sel im r s
        else segGain (amended sel im r).segment r (segLose r.segment r (amendWritten slot sel im r s)) := by
  have hdef : amendRecord slot sel im r s
      = if (if amendBumps sel = true then (amended sel im r).bump else amended sel im r).segment = r.segment then
          (if amendAsks sel r then
              requestEval slot (setRecord slot (if amendBumps sel = true then (amended sel im r).bump else amended sel im r) s)
            else setRecord slot (if amendBumps sel = true then (amended sel im r).bump else amended sel im r) s)
        else segGain (if amendBumps sel = true then (amended sel im r).bump else amended sel im r).segment r
          (segLose r.segment r (if amendAsks sel r then
              requestEval slot (setRecord slot (if amendBumps sel = true then (amended sel im r).bump else amended sel im r) s)
            else setRecord slot (if amendBumps sel = true then (amended sel im r).bump else amended sel im r) s)) := rfl
  have hseg : (if amendBumps sel = true then (amended sel im r).bump else amended sel im r).segment = (amended sel im r).segment := by
    split <;> rfl
  have hwritten : (if amendAsks sel r then
        requestEval slot (setRecord slot (if amendBumps sel = true then (amended sel im r).bump else amended sel im r) s)
      else setRecord slot (if amendBumps sel = true then (amended sel im r).bump else amended sel im r) s)
      = amendWritten slot sel im r s := by
    unfold amendWritten amendedRecord
    by_cases ha : amendAsks sel r
    · have hq : (amended sel im r).bump.eval = r.eval := rfl
      rw [if_pos ha, requestEval_setRecord]
      simp only [if_pos ha.1, hq, if_pos ha]
      by_cases he : r.eval = .queued <;> simp [ha, he] <;> rfl
    · rw [if_neg ha]
      simp only [ha, false_and, if_false]
      by_cases hb : amendBumps sel = true <;> simp only [hb, if_true] <;> rfl
  rw [hdef, hseg, hwritten]

/-- What an AMEND that passes its checks asks of the fields it selects (R24). -/
theorem amendRefusal_none {sel : Byte} {im : LoadImage} {r : Record} (h : amendRefusal sel im r s = none) :
    r.upload.isCarried = false
    ∧ (s.route.state = .active → sel.getLsbD 0 = false ∧ sel.getLsbD 3 = false ∧ sel.getLsbD 4 = false)
    ∧ (sel.getLsbD 1 = true → im.profile ≤ 15) ∧ (sel.getLsbD 2 = true → im.segment ≤ 1023)
    ∧ (amended sel im r).baseline < modulusOf (s.store.live.profileAt (amended sel im r).profile).digits
    ∧ (sel.getLsbD 4 = true → im.baselineAge ≤ 4095)
    ∧ (∀ x, r.reading = some x → x.value < modulusOf (s.store.live.profileAt (amended sel im r).profile).digits)
    ∧ (sel.getLsbD 5 = true → im.bandLow ≤ im.bandHigh) := by
  simp only [amendRefusal] at h
  split_ifs at h with hcar hlock hprofile hseg hbase hband
  obtain ⟨hbase, hage, hreading⟩ := (not_or.1 hbase).imp_right not_or.1
  refine ⟨by simpa using hcar, fun ha => by simpa [ha, and_assoc] using hlock, fun h1 => Nat.le_of_not_lt fun hx => hprofile ⟨h1, hx⟩,
    fun h2 => Nat.le_of_not_lt fun hx => hseg ⟨h2, hx⟩, Nat.lt_of_not_le hbase,
    fun h4 => Nat.le_of_not_lt fun hx => hage ⟨h4, hx⟩, fun x hx => ?_, fun h5 => Nat.le_of_not_lt fun hx => hband ⟨h5, hx⟩⟩
  simpa [hx] using hreading

/-- A sound record stays sound under an AMEND that passes its checks. -/
theorem RecordSound.amend {sel : Byte} {im : LoadImage} {r : Record} {n : Nat} {q : List Nat}
    (h : RecordSound s.route.state s.store.live s.eval s.chain n r) (hedit : s.route.state = .ready ∨ s.route.state = .active)
    (hv : amendRefusal sel im r s = none) (hband : im.bandHigh ≤ 65535)
    (hq : n ∈ q ↔ (if amendAsks sel r then .queued else r.eval) = EvalState.queued) :
    RecordSound s.route.state s.store.live { s.eval with queue := q } s.chain n (amendedRecord sel im r) := by
  obtain ⟨-, hlocked, hprofile, hseg, hbase, hage, hvalue, hbands⟩ := amendRefusal_none hv
  obtain ⟨hid, hid', hprofile', hseg', -, hage', hbands', hhigh', hhear, hreading, hsignal, hresult⟩ := h.inRange
  obtain ⟨hread, hsig, hnone, hres, hdone, hflag, hrev, hcar⟩ := h.holds
  have hactive : ∀ x, r.reading = some x → s.route.state = .active := fun x hx => by
    refine hedit.resolve_left fun hready => ?_
    have hst := hread.1 (by rw [hx]; rfl)
    have hallowed := h.allowed
    rw [hready] at hallowed
    have hallowed : r.state = .expected := hallowed
    rw [hallowed] at hst
    simp at hst
  have hinputs : ∀ x, r.reading = some x → ¬ amendAsks sel r → ∀ p, snapshotOf (amendedRecord sel im r) x p = snapshotOf r x p := by
    intro x hx hna p
    obtain ⟨-, h3, h4⟩ := hlocked (hactive x hx)
    have hb : amendBumps sel = false := by
      by_contra hb
      exact hna ⟨by simpa using hb, by rw [hx]; rfl⟩
    have h5 : sel.getLsbD 5 = false := (Bool.or_eq_false_iff.1 hb).2
    simp only [snapshotOf, amendedRecord, amended, hb, h3, h4, h5, Bool.false_eq_true, if_false]
  have hkeep {e : EvalState} (hne : e ≠ .queued) (he : (if amendAsks sel r then EvalState.queued else r.eval) = e) :
      ¬ amendAsks sel r ∧ r.eval = e := by
    by_cases ha : amendAsks sel r
    · rw [if_pos ha] at he
      exact absurd he.symm hne
    · rw [if_neg ha] at he
      exact ⟨ha, he⟩
  refine ⟨⟨hid, hid', ?_, ?_, hbase, ?_, ?_, ?_, hhear, fun x hx => ⟨hvalue x hx, (hreading x hx).2⟩, hsignal, hresult⟩,
    ⟨hread, hsig, ?_, hres, fun hd => hdone (hkeep (by decide) hd).2, hflag, hrev, hcar⟩, h.allowed, hq, h.flagged,
    fun hr => h.running (hkeep (by decide) hr).2, fun x hx hd => ?_, fun x hx hr c hc => ?_⟩
  · show (if sel.getLsbD 1 = true then im.profile else r.profile) ≤ 15
    split
    · rename_i h1; exact hprofile h1
    · exact hprofile'
  · show (if sel.getLsbD 2 = true then im.segment else r.segment) ≤ 1023
    split
    · rename_i h2; exact hseg h2
    · exact hseg'
  · show (if sel.getLsbD 4 = true then im.baselineAge else r.baselineAge) ≤ 4095
    split
    · rename_i h4; exact hage h4
    · exact hage'
  · show (if sel.getLsbD 5 = true then im.bandLow else r.bandLow) ≤ if sel.getLsbD 5 = true then im.bandHigh else r.bandHigh
    split
    · rename_i h5; exact hbands h5
    · exact hbands'
  · show (if sel.getLsbD 5 = true then im.bandHigh else r.bandHigh) ≤ 65535
    split
    · exact hband
    · exact hhigh'
  · show (if amendAsks sel r then EvalState.queued else r.eval) = .none ↔ r.reading = none
    by_cases ha : amendAsks sel r
    · rw [if_pos ha]
      exact ⟨fun hn => (by cases hn), fun hn => by rw [amendAsks, hn] at ha; cases ha.2⟩
    · rw [if_neg ha]
      exact hnone
  · obtain ⟨hna, he⟩ := hkeep (by decide) hd
    obtain ⟨p, hp⟩ := h.done x hx he
    exact ⟨p, by rw [hinputs x hx hna]; exact hp⟩
  · obtain ⟨hna, he⟩ := hkeep (by decide) hr
    obtain ⟨p, hp⟩ := h.snapshot x hx he c hc
    exact ⟨p, by rw [hinputs x hx hna]; exact hp⟩

theorem State.Live.amend (h : s.Live loose) (hedit : s.route.state = .ready ∨ s.route.state = .active) {slot : Nat} {sel : Byte}
    {im : LoadImage} {r : Record} (hr : s.recordAt slot = some r) (hv : amendRefusal sel im r s = none)
    (hband : im.bandHigh ≤ 65535) : (amendRecord slot sel im r s).Live loose := by
  have hsound := h.records.each slot r hr
  have hn : r.segment < 1024 := Nat.lt_succ_of_le hsound.inRange.2.2.2.1
  have hget := recordAt_setRecord slot (amendedRecord sel im r) s
  obtain ⟨hnodup, hmem, hother⟩ := queue_asked h.records.queueNodup hsound.queued (amendAsks sel r)
  have hamended := hsound.amend hedit hv hband hmem
  have hrecords := h.records.write (ev' := { s.eval with queue := _ }) hget hamended hnodup hother h.records.chainNodup
    (fun _ _ => Iff.rfl) (fun _ _ _ _ _ => rfl)
    (h.records.computation_write hget fun q hq he => by
      obtain rfl := Option.some.inj (hr.symm.trans hq)
      show (if amendAsks sel r then EvalState.queued else r.eval) = .running
        ∨ (if amendAsks sel r then EvalState.queued else r.eval) = .queued
      split
      · exact .inr rfl
      · exact he)
  rw [amendRecord_eq]
  split
  · rename_i hsame
    exact h.write (r' := amendedRecord sel im r) hr rfl hsame rfl rfl hrecords
  · rename_i hmoved
    have hm : (amended sel im r).segment < 1024 := Nat.lt_succ_of_le hamended.inRange.2.2.2.1
    have hcounts : ((amendWritten slot sel im r s).segAt r.segment).counts r := h.counts_record hr
    have hlost := segLose_settles hcounts
    have hdel := countIn_del h.roster.rising hr
    have hput := countIn_put (amendedRecord sel im r) h.roster.rising hr
    have hlose := SegmentsSound.lose (s := amendWritten slot sel im r s) h.segments hn hlost
      (segsCanonical_segLose (s := amendWritten slot sel im r s) hn h.segments.canonical r) hcounts
      (slots' := tableDel s.roster.slots slot)
      (fun p => by rw [← Record.bit_own (r := r)]; exact hdel _ p)
      fun m hm p => by
        have := hdel m p
        rwa [Record.bit_other hm] at this
    have hopen : s.route.state ≠ .closed := by rcases hedit with he | he <;> rw [he] <;> decide
    have hgain := segGain_gains (n := (amended sel im r).segment) (r := r)
      (s := segLose r.segment r (amendWritten slot sel im r s)) (hlose.read_le hm) (hlose.no_deadline hm)
    have hsegs := hlose.gain hopen hm hgain (segsCanonical_segGain hm hlose.canonical r)
      (slots' := tablePut s.roster.slots slot (amendedRecord sel im r))
      (fun p => by
        have h1 := hdel (amended sel im r).segment p
        have h2 := hput (amended sel im r).segment p
        have h3 : (amendedRecord sel im r).bit (amended sel im r).segment p = if p r.state = true then 1 else 0 :=
          Record.bit_own (r := amendedRecord sel im r) p
        omega)
      fun m hm p => by
        have h1 := hdel m p
        have h2 := hput m p
        rw [Record.bit_other (r := amendedRecord sel im r) hm] at h2
        omega
    obtain ⟨hframe, -, -⟩ := hgain
    obtain ⟨hframe', -, -⟩ := hlost
    generalize segLose r.segment r (amendWritten slot sel im r s) = u at hframe hframe' hsegs ⊢
    generalize segGain (amended sel im r).segment r u = t at hframe hsegs ⊢
    rw [hframe] at hsegs ⊢
    rw [hframe'] at hsegs ⊢
    refine { h with
      roster := h.roster.write hr rfl
      records := hrecords
      segments := hsegs
      blocks := h.blocks.of_carriers (carrier_write hr hget rfl)
      port := ⟨h.port.1, h.port.2.1, ?_⟩ }
    show (if _ then _ else _) ≤ 5
    split
    · exact Nat.le_refl 5
    · exact h.port.2.2

theorem editable_iff {st : RouteState} : st.editable = true ↔ st = .ready ∨ st = .active := by
  cases st <;> simp [RouteState.editable]

theorem viewOf_length_le (s : State) (slot : Nat) : (s.viewOf slot).length ≤ 255 := by
  unfold State.viewOf
  split
  · simp
  · simp [Record.view_length]

theorem commandAmend_lawful (args : List Byte) (h : s.Live []) : Lawful (commandAmend args s) := by
  unfold commandAmend
  dsimp only
  split
  · rename_i hedit
    split
    · exact h.reply _ (by simp)
    · rename_i r hn
      split
      · exact h.reply _ (by simp)
      · rename_i hv
        exact (h.amend (editable_iff.1 hedit) (named_iff.1 hn).2.1 hv (loadImageOf_bandHigh _)).reply _ (viewOf_length_le _ _)
  · exact h.reply _ (by simp)

/-! ## INSERT and RETIRE (R23, R26) -/

theorem commandInsert_lawful (args : List Byte) (h : s.Live []) : Lawful (commandInsert args s) := by
  unfold commandInsert
  split
  · rename_i hedit
    split
    · exact h.reply _ (by simp)
    · rename_i hv
      exact (h.create (.inr (editable_iff.1 hedit)) hv (loadImageOf_bandHigh _)).reply _ (by simp)
  · exact h.reply _ (by simp)

theorem commandRetire_lawful (args : List Byte) (h : s.Live []) : Lawful (commandRetire args s) := by
  unfold commandRetire
  dsimp only
  split
  · split
    · exact h.reply _ (by simp)
    · rename_i r hn
      obtain ⟨-, hr, -⟩ := named_iff.1 hn
      split
      · exact h.reply _ (by simp)
      · rename_i hc
        have hlisted := h.blocks.not_listed fun q hq => by
          obtain rfl := Option.some.inj (hr.symm.trans hq)
          exact Bool.eq_false_iff.2 hc
        exact (h.retireSlot hr hlisted.2 (List.Sublist.refl []) (by simp)).reply _ (by simp)
  · exact h.reply _ (by simp)

/-! ## The reads (R20 to R22) -/

/-- The READ NEXT cursor is set to a slot of the roster. -/
theorem State.Live.setCursor (h : s.Live loose) {c : Option Nat} (hc : ∀ n ∈ c, n < 8192) :
    ({ s with port.cursor := c } : State).Live loose :=
  { h with port := ⟨hc, h.port.2.1, h.port.2.2⟩ }

/-- The slot of a record is one of the roster's. -/
theorem Roster.Sound.slot_lt {ro : Roster} (h : ro.Sound) {n : Nat} {r : Record} (hr : tableGet ro.slots n = some r) : n < 8192 :=
  h.keys _ (mem_of_tableGet hr)

theorem commandLookup_lawful (args : List Byte) (h : s.Live []) : Lawful (commandLookup args s) := by
  unfold commandLookup
  split
  · exact h.reply _ (by simp)
  · rename_i slot _
    split
    · exact h.reply _ (by simp)
    · rename_i r hr
      exact (h.setCursor (c := some slot) (by simpa using h.roster.slot_lt hr)).reply _ (by simp [Record.view_length])

theorem commandReadSlot_lawful (args : List Byte) (h : s.Live []) : Lawful (commandReadSlot args s) := by
  unfold commandReadSlot
  dsimp only
  split
  · rename_i hslot
    have hset := h.setCursor (c := some (fieldAt args 0 2)) fun n hn => Option.some.inj hn ▸ hslot
    split
    · exact hset.reply _ (by simp)
    · exact hset.reply _ (by simp [Record.view_length])
  · exact (h.setCursor (c := none) (by simp)).reply _ (by simp)

theorem commandReadNext_lawful (args : List Byte) (h : s.Live []) : Lawful (commandReadNext args s) := by
  unfold commandReadNext
  split
  · exact h.reply _ (by simp)
  · rename_i e he
    exact (h.setCursor (c := some e.1) (by simpa using h.roster.keys e (List.mem_of_find?_eq_some he))).reply _
      (by simp [Record.view_length])

end Sys2Proof.Machine

/-! PROOFS. The life of the route keeps the laws of a running part: the load, the seal, the begin, the close and the discard. -/

namespace Sys2Proof.Machine

variable {s : State} {loose : List Nat} {route route' : RouteState}

/-! ## A change of the route state -/

/-- The route changes to a state that allows the records there are. -/
theorem RecordsSound.reroute {get : Nat → Option Record} {live : Settings} {ev : EvalUnit} {chain : List Nat}
    (h : RecordsSound get route live ev chain) (hallows : ∀ n r, get n = some r → route.allows r.state → route'.allows r.state) :
    RecordsSound get route' live ev chain :=
  { h with each := fun n r hr => { h.each n r hr with allowed := hallows n r hr (h.each n r hr).allowed } }

/-- The route changes between two states that are neither ACTIVE nor CLOSED, the staged windows standing at zero. -/
theorem SegmentsSound.reroute {seg : Segments} {slots : List (Nat × Record)} (h : SegmentsSound seg route slots)
    (ha : route ≠ .active) (hc : route ≠ .closed) (hr : route ≠ .ready) (hc' : route' ≠ .closed) :
    SegmentsSound seg route' slots :=
  { h with
    each := fun n hn =>
      { h.each n hn with
        fits := fun _ => (h.each n hn).fits hc
        closed := fun hcl => absurd hcl hc'
        unvisited := fun _ _ => (h.each n hn).unvisited ha hc }
    appliedZero := fun _ => h.appliedZero ha
    stagedZero := fun _ _ => h.stagedZero ha hr }

/-- In EMPTY the roster lists nothing and the Segment Tracker stands in its empty form. -/
theorem State.Live.empty (h : s.Live []) (he : s.route.state = .empty) :
    (∀ n, s.recordAt n = none) ∧ s.seg = {} ∧ s.roster.slots = [] := by
  obtain ⟨hroster, -, -, -, hseg⟩ := h.toSound.emptyLaw he
  exact ⟨fun n => by rw [State.recordAt, hroster]; rfl, hseg, by rw [hroster]⟩

/-! ## The load (R30 to R34) -/

/-- A load is opened on a manifest of 1 to 8192 records (R30). -/
theorem openRefusal_none {m : List Byte} (h : openRefusal m s = none) :
    s.route.state = .empty ∧ 1 ≤ fieldAt m 4 2 ∧ fieldAt m 4 2 ≤ 8192 := by
  unfold openRefusal at h
  split_ifs at h with he hcount
  obtain ⟨hpos, hmost⟩ := not_or.1 hcount
  exact ⟨not_not.1 he, Nat.pos_of_ne_zero hpos, Nat.le_of_not_lt hmost⟩

theorem State.Live.openLoad (h : s.Live []) {m : List Byte} (hm : openRefusal m s = none) {owner : Owner}
    (howner : owner ≠ .none) : (openLoad owner m s).Live [] := by
  obtain ⟨he, hpos, hmost⟩ := openRefusal_none hm
  obtain ⟨hnone, hseg, hslots⟩ := h.empty he
  have hclock : s.route.clock = 0 := by rw [h.route.1 he]
  exact { h with
    records := h.records.of_none hnone
    segments := by
      show SegmentsSound s.seg .loading s.roster.slots
      rw [hseg, hslots]
      exact segmentsSound_empty (by simp)
    route := ⟨fun hx => (by cases hx), ⟨fun ho => absurd ho howner, fun hx => (by cases hx)⟩, fun _ => hpos, hmost, Nat.zero_le _,
      Nat.zero_le _, rfl, hclock ▸ Nat.zero_le _, fun _ _ => hclock⟩ }

/-- Route Control's counts and its Reject List are changed, the route state standing. -/
theorem State.Live.setRoute (h : s.Live loose) {ro : Route} (hst : ro.state = s.route.state)
    (hlaw : ({ s with route := ro } : State).routeLaw) : ({ s with route := ro } : State).Live loose :=
  { h with
    records := by
      show RecordsSound s.recordAt ro.state s.store.live s.eval s.chain
      rw [hst]
      exact h.records
    segments := by
      show SegmentsSound s.seg ro.state s.roster.slots
      rw [hst]
      exact h.segments
    route := hlaw }

/-- A record taken into the load is counted and folded (R32). -/
theorem State.Live.receive (h : s.Live loose) (hl : s.route.state = .loading) (image : List Byte) :
    ({ s with route := s.route.receive image } : State).Live loose := by
  obtain ⟨-, howner, hpos, hmost, -, hrejects, hlist, hclock, hzero⟩ := h.route
  exact h.setRoute (ro := s.route.receive image) rfl
    ⟨fun he => absurd (hl.symm.trans he) (by decide), howner, hpos, hmost, satInc_le _ _, hrejects, hlist, hclock, hzero⟩

/-- A rejected load record is counted, and listed while the list has room (R34). -/
theorem State.Live.reject (h : s.Live loose) (hl : s.route.state = .loading) (entry : Reject) :
    ({ s with route := s.route.reject entry } : State).Live loose := by
  obtain ⟨-, howner, hpos, hmost, hreceived, hrejects, hlist, hclock, hzero⟩ := h.route
  refine h.setRoute (ro := s.route.reject entry) rfl
    ⟨fun he => absurd (hl.symm.trans he) (by decide), howner, hpos, hmost, hreceived, satInc_le _ _, ?_, hclock, hzero⟩
  show (if s.route.rejectList.length < 64 then s.route.rejectList ++ [entry] else s.route.rejectList).length
    = min 64 (if s.route.rejects < 65535 then s.route.rejects + 1 else 65535)
  split
  · rw [List.length_append, List.length_singleton]
    split <;> omega
  · split <;> omega

/-- A load record is taken by its own party while the route is LOADING (R31). -/
theorem loadRefusal_none {party : Owner} (h : loadRefusal party s = none) : s.route.state = .loading ∧ s.route.owner = party := by
  unfold loadRefusal at h
  split_ifs at h with hl ho
  exact ⟨not_not.1 hl, not_not.1 ho⟩

theorem State.Live.takeLoadRecord (h : s.Live loose) (hl : s.route.state = .loading) (image : List Byte) :
    (takeLoadRecord image s).1.Live loose := by
  have hcounted := h.receive hl image
  unfold Machine.takeLoadRecord
  dsimp only
  split
  · rename_i hv
    exact hcounted.create (.inl hl) hv (loadImageOf_bandHigh image)
  · exact hcounted.reject hl _

/-! ## The seal, the begin and the close (R36, R39, R42) -/

theorem State.Live.sealLoad (h : s.Live loose) (hl : s.route.state = .loading) : (sealLoad s).Live loose := by
  obtain ⟨-, howner, hpos, hmost, hreceived, hrejects, hlist, hclock, hzero⟩ := h.route
  have hst : (if sealPasses s.route = true then RouteState.ready else .loadFault) = .ready
      ∨ (if sealPasses s.route = true then RouteState.ready else .loadFault) = .loadFault := by
    split
    · exact .inl rfl
    · exact .inr rfl
  have hne {st : RouteState} (h1 : st ≠ .ready) (h2 : st ≠ .loadFault) :
      (if sealPasses s.route = true then RouteState.ready else .loadFault) ≠ st := by
    rcases hst with he | he <;> rw [he]
    · exact h1.symm
    · exact h2.symm
  have howned : s.route.owner ≠ .none := fun ho => by cases hl.symm.trans (howner.1 ho)
  refine State.Live.raise (s := { s with route.state := if sealPasses s.route then .ready else .loadFault }) { h with
    records := h.records.reroute fun n r _ hallow => ?_
    segments := h.segments.reroute (by rw [hl]; decide) (by rw [hl]; decide) (by rw [hl]; decide) (hne (by decide) (by decide))
    route := ⟨fun he => absurd he (hne (by decide) (by decide)),
      ⟨fun ho => absurd ho howned, fun he => absurd he (hne (by decide) (by decide))⟩,
      fun _ => hpos (by rw [hl]; decide), hmost, hreceived, hrejects, hlist, hclock,
      fun _ _ => hzero (by rw [hl]; decide) (by rw [hl]; decide)⟩ } attLoadDone
  rw [hl] at hallow
  show RouteState.allows (if sealPasses s.route = true then RouteState.ready else .loadFault) r.state
  rcases hst with he | he <;> rw [he] <;> exact hallow

/-- The table with every entry changed stands in its canonical form. -/
theorem segsCanonical_mapSegs {f : Nat → SegEntry → SegEntry} {table : List (Nat × SegEntry)} (h : segsCanonical table) :
    segsCanonical (mapSegs f table) := by
  refine ⟨tableRising_filter _ (tableRising_map _ h.1), fun e he => ?_⟩
  obtain ⟨hmem, hne⟩ := List.mem_filter.1 he
  obtain ⟨x, hx, rfl⟩ := List.mem_map.1 hmem
  exact ⟨(h.2 x hx).1, by simpa using hne⟩

/-- The entries of a route that begins are unvisited (R147). -/
theorem segAt_beginRoute (h : tableRising s.seg.table = true) (n : Nat) :
    (beginRoute s).segAt n = { s.segAt n with visited := false } :=
  getD_mapSegs (f := fun _ e => { e with visited := false }) n h rfl

theorem State.Live.beginRoute (h : s.Live loose) (hr : s.route.state = .ready) : (beginRoute s).Live loose := by
  obtain ⟨-, howner, hpos, hmost, hreceived, hrejects, hlist, -, -⟩ := h.route
  have hg := h.segments
  have happlied : s.seg.applied = {} := hg.appliedZero (by rw [hr]; decide)
  have hentry : ∀ n, n < 1024 → entryIn (Machine.beginRoute s).seg.table n = entryIn s.seg.table n := fun n hn => by
    have hv : (entryIn s.seg.table n).visited = false := (hg.each n hn).unvisited (by rw [hr]; decide) (by rw [hr]; decide)
    refine (segAt_beginRoute hg.canonical.1 n).trans ?_
    show { entryIn s.seg.table n with visited := false } = _
    rw [← hv]
  have howned : s.route.owner ≠ .none := fun ho => by cases hr.symm.trans (howner.1 ho)
  exact { h with
    records := h.records.reroute fun n r _ hallow => by
      rw [hr] at hallow
      have hx : r.state = .expected := hallow
      show r.state ≠ .notRead
      rw [hx]
      decide
    segments :=
      { canonical := segsCanonical_mapSegs (f := fun _ e => { e with visited := false }) hg.canonical
        each := fun n hn => by
          have he := hg.each n hn
          rw [happlied] at he
          show EntrySound .active _ _ (entryIn (Machine.beginRoute s).seg.table n)
          rw [hentry n hn]
          exact { he with
            fits := fun _ => he.fits (by rw [hr]; decide)
            closed := fun hc => (by cases hc)
            unvisited := fun hx => absurd rfl hx }
        revisitNodup := hg.revisitNodup
        revisit := fun n => by
          refine (hg.revisit n).trans (and_congr_right fun hn => ?_)
          show _ ↔ (entryIn (Machine.beginRoute s).seg.table n).state = .missed
          rw [hentry n hn]
        staged := hg.staged
        applied := ⟨Nat.zero_le _, Nat.zero_le _, Nat.zero_le _, Nat.zero_le _⟩
        appliedZero := fun hx => absurd rfl hx
        stagedZero := fun hx => absurd rfl hx }
    route := ⟨fun he => (by cases he), ⟨fun ho => absurd ho howned, fun he => (by cases he)⟩, fun _ => hpos (by rw [hr]; decide),
      hmost, hreceived, hrejects, hlist, Nat.zero_le _, fun hx => absurd rfl hx⟩ }

/-- A record of a route that closes: an EXPECTED one becomes NOT_READ (R42). -/
def Record.close (r : Record) : Record := if r.state = .expected then { r with state := .notRead } else r

theorem Record.close_eq (r : Record) : r.close = { r with state := if r.state = .expected then .notRead else r.state } := by
  unfold Record.close
  split <;> rfl

/-- The records that name a segment: those read, and those that a close turns NOT_READ. -/
theorem countIn_read_add_expected (slots : List (Nat × Record)) (n : Nat) :
    countIn slots n (fun st => decide (st ≠ .expected)) + expectedIn slots n = countIn slots n (fun _ => true) := by
  show countIn slots n _ + countIn slots n (fun st => decide (st = .expected)) = _
  induction slots with
  | nil => rfl
  | cons e t ih =>
    have hbit : e.2.bit n (fun st => decide (st ≠ .expected)) + e.2.bit n (fun st => decide (st = .expected))
        = e.2.bit n (fun _ => true) := by
      unfold Record.bit
      by_cases hs : e.2.segment = n <;> by_cases hx : e.2.state = .expected <;> simp [hs, hx]
    simp only [countIn_cons]
    omega

/-- Closing the records leaves none EXPECTED, and changes no other count. -/
theorem countIn_close (slots : List (Nat × Record)) (n : Nat) (p : RecState → Bool) :
    countIn (slots.map (fun e => (e.1, e.2.close))) n p
      = countIn slots n (fun st => p (if st = .expected then .notRead else st)) := by
  induction slots with
  | nil => rfl
  | cons e t ih =>
    rw [List.map_cons, countIn_cons, countIn_cons, ih]
    simp only [Record.bit, Record.close_eq]

/-- Reading an entry after a change of every listed entry. -/
theorem getD_mapSegs_listed {f : Nat → SegEntry → SegEntry} {table : List (Nat × SegEntry)} (h : segsCanonical table) (n : Nat) :
    entryIn (mapSegs f table) n = if entryIn table n = {} then {} else f n (entryIn table n) := by
  have hmap : mapSegs f table = mapSegs (fun n e => if e = {} then {} else f n e) table := by
    unfold mapSegs
    refine congrArg _ (List.map_congr_left fun e he => ?_)
    exact congrArg _ (if_neg (h.2 e he).2).symm
  rw [hmap]
  exact getD_mapSegs (f := fun n e => if e = {} then {} else f n e) n h.1 (if_pos rfl)

/-- What a close makes of a segment's entry (R148). -/
def SegEntry.close (e : SegEntry) : SegEntry :=
  { e with read := e.members, state := if e.state = .vacant then .vacant else .closed, deadline := none }

/-- What a close writes into a listed entry: the records in EXPECTED are counted read, and the segment is CLOSED unless it is
VACANT. -/
def closeEntry (slots : List (Nat × Record)) (n : Nat) (e : SegEntry) : SegEntry :=
  if e.state = .vacant then { e with read := e.read + expectedIn slots n }
  else { e with read := e.read + expectedIn slots n, state := .closed, deadline := none }

/-- The entry of a segment of a route that closes. -/
theorem segAt_closeRoute (h : SegmentsSound s.seg s.route.state s.roster.slots) {n : Nat} (hn : n < 1024) :
    (closeRoute s).segAt n = (s.segAt n).close := by
  have hentry : EntrySound _ _ _ (s.segAt n) := h.each n hn
  have hread : (s.segAt n).read + expectedIn s.roster.slots n = (s.segAt n).members := by
    rw [hentry.members, hentry.read]
    exact countIn_read_add_expected s.roster.slots n
  refine (getD_mapSegs_listed (f := closeEntry s.roster.slots) h.canonical n).trans ?_
  show (if s.segAt n = {} then {} else closeEntry s.roster.slots n (s.segAt n)) = _
  rw [closeEntry, hread, SegEntry.close]
  by_cases hempty : s.segAt n = {}
  · rw [if_pos hempty, hempty]
    rfl
  · rw [if_neg hempty]
    by_cases hv : (s.segAt n).state = .vacant
    · have hd := h.no_deadline hn (.inl hv)
      rw [if_pos hv, if_pos hv, ← hd, ← hv]
    · rw [if_neg hv, if_neg hv]

/-- A sound record of an ACTIVE route is sound when the route has closed. -/
theorem RecordSound.close {live : Settings} {ev : EvalUnit} {chain : List Nat} {n : Nat} {r : Record}
    (h : RecordSound route live ev chain n r) : RecordSound .closed live ev chain n r.close := by
  rw [Record.close_eq]
  obtain ⟨hread, hsig, hnone, hres, hdone, -, -, -⟩ := h.holds
  by_cases hx : r.state = .expected
  · rw [if_pos hx]
    have hno : ¬ r.reading.isSome = true := fun hs => by
      rcases hread.1 hs with he | he | he <;> cases hx.symm.trans he
    exact { h with
      inRange := h.inRange
      holds := ⟨⟨fun hs => absurd hs hno, fun hs => by rcases hs with he | he | he <;> cases he⟩, hsig, hnone, hres, hdone,
        fun hs => (by rcases hs with he | he <;> cases he), fun he => (by cases he), fun _ he => (by cases he)⟩
      allowed := fun he => (by cases he)
      flagged := ⟨fun hm => (by cases hx.symm.trans (h.flagged.1 hm)), fun he => (by cases he)⟩ }
  · rw [if_neg hx]
    exact { h with allowed := hx }

theorem State.Live.closeRoute (h : s.Live loose) (ha : s.route.state = .active) : (closeRoute s).Live loose := by
  obtain ⟨-, howner, hpos, hmost, hreceived, hrejects, hlist, hclock, -⟩ := h.route
  have hg := h.segments
  have howned : s.route.owner ≠ .none := fun ho => by cases ha.symm.trans (howner.1 ho)
  have hopen : s.route.state ≠ .closed := by rw [ha]; decide
  have hget : ∀ n, (Machine.closeRoute s).recordAt n = (s.recordAt n).map Record.close := fun n =>
    tableGet_map (fun _ => Record.close) s.roster.slots n
  have hentry : ∀ n, n < 1024 → entryIn (Machine.closeRoute s).seg.table n = (entryIn s.seg.table n).close := fun n hn =>
    segAt_closeRoute hg hn
  have hmissed : ∀ e : SegEntry, e.close.state ≠ .missed := fun e => by
    unfold SegEntry.close
    dsimp only
    split <;> decide
  exact { h with
    roster := h.roster.remap (f := fun _ => Record.close) fun n r _ => by rw [Record.close_eq]
    records := h.records.remap (f := fun _ => Record.close) hget (fun n r _ hr => hr.close)
      fun n r _ => by rw [Record.close_eq]
    segments :=
      { canonical := segsCanonical_mapSegs (f := closeEntry s.roster.slots) hg.canonical
        each := fun n hn => by
          have he := hg.each n hn
          rw [hentry n hn]
          show EntrySound .closed _ (countIn (s.roster.slots.map fun e => (e.1, e.2.close)) n) _
          have hd := he.deadline
          exact
            { members := by rw [countIn_close]; exact he.members
              read := by
                rw [countIn_close]
                refine he.members.trans (congrArg _ (funext fun st => ?_))
                cases st <;> rfl
              flagged := by
                rw [countIn_close]
                refine he.flagged.trans (congrArg _ (funext fun st => ?_))
                cases st <;> rfl
              fits := fun hc => absurd rfl hc
              closed := fun _ => by
                by_cases hv : (entryIn s.seg.table n).state = .vacant
                · refine .inr ⟨if_pos hv, ?_⟩
                  have hf := he.fits hopen
                  rwa [SegEntry.fits, hv] at hf
                · exact .inl (if_neg hv)
              deadline := by
                unfold SegEntry.close
                dsimp only
                split <;> simp
              visited := fun hc => by rw [show (Machine.closeRoute s).seg.applied = {} from rfl, covers_zero] at hc; cases hc
              unvisited := fun _ hc => absurd rfl hc }
        revisitNodup := List.nodup_nil
        revisit := fun n => ⟨fun hm => absurd hm List.not_mem_nil, fun ⟨hn, hm⟩ => by
          rw [hentry n hn] at hm
          exact absurd hm (hmissed _)⟩
        staged := ⟨Nat.zero_le _, Nat.zero_le _, Nat.zero_le _, Nat.zero_le _⟩
        applied := ⟨Nat.zero_le _, Nat.zero_le _, Nat.zero_le _, Nat.zero_le _⟩
        appliedZero := fun _ => rfl
        stagedZero := fun _ _ => rfl }
    route := ⟨fun he => (by cases he), ⟨fun ho => absurd ho howned, fun he => (by cases he)⟩, fun _ => hpos (by rw [ha]; decide),
      hmost, hreceived, hrejects, hlist, hclock, fun _ hx => absurd rfl hx⟩
    blocks := h.blocks.of_carriers fun n => by
      rw [hget]
      cases s.recordAt n with
      | none => rfl
      | some r => simp [Record.close_eq, Record.carrier] }

/-! ## The host's commands -/

theorem commandLoadOpen_lawful (args : List Byte) (h : s.Live []) : Lawful (commandLoadOpen args s) := by
  unfold commandLoadOpen
  split
  · exact h.reply _ (by simp)
  · rename_i hm
    exact (h.openLoad hm (by decide)).reply _ (by simp)

theorem commandLoadRecord_lawful (args : List Byte) (h : s.Live []) : Lawful (commandLoadRecord args s) := by
  unfold commandLoadRecord
  split
  · exact h.reply _ (by simp)
  · rename_i hl
    have htaken := h.takeLoadRecord (loadRefusal_none hl).1 args
    split
    · rename_i t ht
      rw [ht] at htaken
      exact htaken.reply _ (by simp)
    · rename_i t why ht
      rw [ht] at htaken
      exact htaken.reply _ (by simp)

theorem commandLoadSeal_lawful (args : List Byte) (h : s.Live []) : Lawful (commandLoadSeal args s) := by
  unfold commandLoadSeal
  split
  · exact h.reply _ (by simp)
  · rename_i hl
    exact (h.sealLoad (loadRefusal_none hl).1).reply _ (by simp)

theorem commandRejectRead_lawful (args : List Byte) (h : s.Live []) : Lawful (commandRejectRead args s) := by
  unfold commandRejectRead
  split <;> exact h.reply _ (by simp)

theorem commandRouteBegin_lawful (args : List Byte) (h : s.Live []) : Lawful (commandRouteBegin args s) := by
  unfold commandRouteBegin
  split
  · rename_i hr
    exact (h.beginRoute hr).reply _ (by simp)
  · exact h.reply _ (by simp)

theorem commandRouteClose_lawful (args : List Byte) (h : s.Live []) : Lawful (commandRouteClose args s) := by
  unfold commandRouteClose
  split
  · rename_i ha
    exact (h.closeRoute ha).reply _ (by simp)
  · exact h.reply _ (by simp)

/-- No block is out. -/
theorem blocksOut_eq_false : s.blocksOut = false ↔ s.upload.table = [] := by
  simp [State.blocksOut]

theorem commandRouteDiscard_lawful (args : List Byte) (h : s.Live []) : Lawful (commandRouteDiscard args s) := by
  unfold commandRouteDiscard
  split
  · exact h.reply _ (by simp)
  · split
    · exact h.reply _ (by simp)
    · rename_i hb
      exact (h.discardRoute (blocksOut_eq_false.1 (Bool.eq_false_iff.2 hb))).reply _ (by simp)

/-! ## The depot's messages -/

theorem State.Live.dockRouteOpen (h : s.Live []) (payload : List Byte) : (dockRouteOpen payload s).Live [] := by
  unfold Machine.dockRouteOpen
  split
  · exact h.answerDepot _
  · rename_i hm
    exact (h.openLoad hm (by decide)).answerDepot _

theorem State.Live.dockRouteRecord (h : s.Live []) (payload : List Byte) : (dockRouteRecord payload s).Live [] := by
  unfold Machine.dockRouteRecord
  split
  · exact h.answerDepot _
  · rename_i hl
    exact h.takeLoadRecord (loadRefusal_none hl).1 payload

theorem State.Live.dockRouteSeal (h : s.Live []) : (dockRouteSeal s).Live [] := by
  unfold Machine.dockRouteSeal
  split
  · exact h.answerDepot _
  · rename_i hl
    exact (h.sealLoad (loadRefusal_none hl).1).answerDepot _

theorem State.Live.dockRouteAbort (h : s.Live []) : (dockRouteAbort s).Live [] := by
  unfold Machine.dockRouteAbort
  split
  · exact h.answerDepot _
  · split
    · exact h.answerDepot _
    · split
      · exact h.answerDepot _
      · rename_i hb
        exact (h.discardRoute (blocksOut_eq_false.1 (Bool.eq_false_iff.2 hb))).answerDepot _

theorem State.Live.dockCloseRoute (h : s.Live []) : (dockCloseRoute s).Live [] := by
  unfold Machine.dockCloseRoute
  split
  · rename_i ha
    exact (h.closeRoute ha).answerDepot _
  · exact h.answerDepot _

end Sys2Proof.Machine

/-! PROOFS. The segments' own commands and the route second keep the laws of a running part. -/

namespace Sys2Proof.Machine

variable {s : State} {loose : List Nat}

/-! ## One segment settled with no change of its counts -/

/-- A segment of the part is settled: its entry and the Revisit List change, and the part stays sound. -/
theorem State.Live.settle (h : s.Live loose) {n : Nat} (hn : n < 1024) {e : SegEntry} {revisit : List Nat} {causes : BitVec 8}
    (hentry : EntrySound s.route.state (s.seg.applied.covers n) (countIn s.roster.slots n) e) (hnodup : revisit.Nodup)
    (hrevisit : ∀ m, m ∈ revisit ↔ if m = n then e.state = .missed else m ∈ s.seg.revisit) :
    ({ setSeg n e s with seg.revisit := revisit, port.causes := causes } : State).Live loose := by
  have hown : entryIn (putSeg s.seg.table n e) n = e := (getD_putSeg s.seg.table n n e).trans (if_pos rfl)
  exact { h with
    segments := h.segments.change hn (segsCanonical_putSeg h.segments.canonical hn e) rfl rfl
      (show EntrySound _ _ _ (entryIn (putSeg s.seg.table n e) n) by rw [hown]; exact hentry)
      (fun m hm => (getD_putSeg s.seg.table n m e).trans (if_neg hm)) (fun _ _ _ => rfl) hnodup
      (show ∀ m, m ∈ revisit ↔ if m = n then (entryIn (putSeg s.seg.table n e) n).state = .missed else m ∈ s.seg.revisit by
        rw [hown]; exact hrevisit) }

/-- A segment that is not in the empty form is one of the route's. -/
theorem SegmentsSound.lt_of_state {route : RouteState} {slots : List (Nat × Record)} (h : SegmentsSound s.seg route slots) {n : Nat}
    (hst : (s.segAt n).state ≠ .vacant) : n < 1024 := by
  have hlisted : ∃ e, tableGet s.seg.table n = some e := Option.ne_none_iff_exists'.1 fun hnone => by
    rw [State.segAt, hnone] at hst
    exact hst rfl
  obtain ⟨e, he⟩ := hlisted
  exact (h.canonical.2 _ (mem_of_tableGet he)).1

/-- A TRAILING segment becomes MISSED (R140). -/
theorem EntrySound.miss {route : RouteState} {covered : Bool} {c : (RecState → Bool) → Nat} {e : SegEntry}
    (h : EntrySound route covered c e) (hst : e.state = .trailing) :
    EntrySound route covered c { e with state := .missed, deadline := none } :=
  { h with
    fits := fun hc => by
      have hf := h.fits hc
      rwa [SegEntry.fits, hst] at hf
    closed := fun hc => by rcases h.closed hc with hx | ⟨hx, -⟩ <;> cases hst.symm.trans hx
    deadline := ⟨fun hd => (by cases hd), fun hx => (by cases hx)⟩ }

theorem State.Live.expireSeg (h : s.Live loose) (clock n : Nat) : (expireSeg clock n s).Live loose := by
  rcases expireSeg_cases clock n s with ⟨d, hst, -, -, he⟩ | ⟨-, he⟩
  · have hn := h.segments.lt_of_state (n := n) (by rw [hst]; decide)
    rw [he]
    refine h.settle hn ((h.segments.each n hn).miss hst) (nodup_joined h.segments.revisitNodup fun hm => ?_)
      (revisit_joined (e := { s.segAt n with state := .missed, deadline := none }) rfl)
    cases hst.symm.trans ((h.segments.revisit n).1 hm).2
  · rw [he]
    exact h

/-- A run of expiries, in any order. -/
theorem State.Live.expireSegs (h : s.Live loose) (clock : Nat) (l : List Nat) :
    (l.foldl (fun s n => Machine.expireSeg clock n s) s).Live loose := by
  induction l generalizing s with
  | nil => exact h
  | cons n t ih => exact ih (h.expireSeg clock n)

theorem clockRuns_iff : s.clockRuns = true ↔ s.listens ∧ s.route.state = .active := by
  rw [State.clockRuns, Bool.and_eq_true, listens_iff, decide_eq_true_eq]

theorem execRouteSecond_lawful (h : s.Laws) : Lawful (execRouteSecond s) := by
  unfold execRouteSecond
  split
  · rename_i hr
    obtain ⟨hl, ha⟩ := clockRuns_iff.1 hr
    have hlive := h.live hl
    obtain ⟨-, howner, hpos, hmost, hreceived, hrejects, hlist, -, -⟩ := hlive.route
    refine (State.Live.expireSegs ?_ _ _).lawful
    exact hlive.setRoute (ro := { s.route with clock := s.nextClock }) rfl
      ⟨fun he => absurd (ha.symm.trans he) (by decide), howner, hpos, hmost, hreceived, hrejects, hlist, satInc_le _ _,
        fun hx => absurd ha hx⟩
  · exact ⟨s, rfl, h⟩

theorem execSegmentDeadlineExpiry_lawful (n : Nat) (h : s.Laws) : Lawful (execSegmentDeadlineExpiry n s) := by
  unfold execSegmentDeadlineExpiry
  split
  · rename_i hr
    exact ((h.live (clockRuns_iff.1 hr).1).expireSeg _ _).lawful
  · exact ⟨s, rfl, h⟩

/-! ## WAIVE (R144) -/

theorem segView_length (s : State) (n : Nat) : (s.segView n).length = 14 := by
  simp [State.segView, SegEntry.view]

/-- A MISSED segment is WAIVED. -/
theorem EntrySound.waive {route : RouteState} {covered : Bool} {c : (RecState → Bool) → Nat} {e : SegEntry}
    (h : EntrySound route covered c e) (hst : e.state = .missed) : EntrySound route covered c { e with state := .waived } :=
  { h with
    fits := fun hc => by
      have hf := h.fits hc
      rwa [SegEntry.fits, hst] at hf
    closed := fun hc => by rcases h.closed hc with hx | ⟨hx, -⟩ <;> cases hst.symm.trans hx
    deadline := h.deadline.trans (by simp [hst]) }

theorem State.Live.waiveSeg (h : s.Live loose) {n : Nat} (hn : n < 1024) (hst : (s.segAt n).state = .missed) :
    (waiveSeg n s).Live loose :=
  h.settle hn ((h.segments.each n hn).waive hst) (h.segments.revisitNodup.filter _)
    (revisit_left (e := { s.segAt n with state := .waived }) (by simp))

theorem commandWaive_lawful (args : List Byte) (h : s.Live []) : Lawful (commandWaive args s) := by
  unfold commandWaive
  dsimp only
  split
  · rename_i hn
    split
    · rename_i hst
      exact (h.waiveSeg hn hst).reply _ (by rw [segView_length]; decide)
    · exact h.reply _ (by simp)
  · exact h.reply _ (by simp)

/-! ## The reads and the staging (R133 to R135, R143, R145) -/

theorem Windows.bytes_length (w : Windows) : w.bytes.length = 6 := by simp [Windows.bytes]

theorem commandSegmentRead_lawful (args : List Byte) (h : s.Live []) : Lawful (commandSegmentRead args s) := by
  unfold commandSegmentRead
  dsimp only
  split
  · exact h.reply _ (by rw [segView_length]; decide)
  · exact h.reply _ (by simp)

theorem commandRevisitRead_lawful (args : List Byte) (h : s.Live []) : Lawful (commandRevisitRead args s) := by
  unfold commandRevisitRead
  dsimp only
  split
  · exact h.reply _ (by simp)
  · exact h.reply _ (by simp [segView_length])

theorem commandWindowRead_lawful (args : List Byte) (h : s.Live []) : Lawful (commandWindowRead args s) := by
  exact h.reply _ (by simp [Windows.bytes_length])

theorem State.Live.stage (h : s.Live loose) (hr : s.route.state.stages = true) {w : Windows} (hw : w.inRange) :
    ({ s with seg.staged := w } : State).Live loose :=
  { h with
    segments := { h.segments with
      staged := hw
      stagedZero := fun ha hy => by rcases stages_iff.1 hr with he | he <;> contradiction } }

/-- Staged values in their ranges are answered. -/
theorem State.Live.replyStaged (h : s.Live []) (hr : s.route.state.stages = true) {w : Windows} (hw : w.inRange) :
    Lawful (Machine.reply .ok w.bytes { s with seg.staged := w }) :=
  (h.stage hr hw).reply _ (by rw [Windows.bytes_length]; decide)

theorem commandWindowStage_lawful (args : List Byte) (h : s.Live []) : Lawful (commandWindowStage args s) := by
  unfold commandWindowStage
  dsimp only
  split
  · rename_i hr
    obtain ⟨ha, hb, hd, hsplit⟩ := h.segments.staged
    refine h.replyStaged hr ⟨?_, ?_, hd, hsplit⟩
    · show (if _ then _ else _) ≤ 1023
      split
      · exact ha
      · exact Nat.min_le_left _ _
    · show (if _ then _ else _) ≤ 1023
      split
      · exact hb
      · exact Nat.min_le_left _ _
  · exact h.reply _ (by simp)

theorem commandWindowDepth_lawful (args : List Byte) (h : s.Live []) : Lawful (commandWindowDepth args s) := by
  unfold commandWindowDepth
  dsimp only
  split
  · rename_i hr
    obtain ⟨ha, hb, -, -⟩ := h.segments.staged
    exact h.replyStaged hr ⟨ha, hb, Nat.min_le_left _ _, Nat.min_le_left _ _⟩
  · exact h.reply _ (by simp)

end Sys2Proof.Machine

/-! PROOFS. WINDOW APPLY: what it does to every segment, in closed form, and that it keeps the laws (R136 to R139). -/

namespace Sys2Proof.Machine

variable {s : State} {loose : List Nat} {l : List Nat} {n : Nat}

/-! ## What an apply is to do -/

/-- The staged windows newly cover the segment. -/
def State.enters (s : State) (n : Nat) : Bool := s.seg.staged.covers n && !s.seg.applied.covers n

/-- An ACTIVE segment that the staged windows cover no longer. -/
def State.leaves (s : State) (n : Nat) : Bool :=
  s.seg.applied.covers n && !s.seg.staged.covers n && decide ((s.segAt n).state = .active)

/-- A newly covered segment that owes readings. -/
def State.wakes (s : State) (n : Nat) : Bool :=
  s.enters n
    && (decide ((s.segAt n).state = .pending) || decide ((s.segAt n).state = .trailing)
      || decide ((s.segAt n).state = .missed) || decide ((s.segAt n).state = .waived))

/-- The entry of a segment as the apply settles it. -/
def State.settled (s : State) (n : Nat) : SegEntry :=
  if s.wakes n then { s.segAt n with visited := true, state := .active, deadline := none }
  else if s.enters n then { s.segAt n with visited := true }
  else if s.leaves n then
    (if s.store.live.grace = 0 then { s.segAt n with state := .missed, deadline := none }
     else { s.segAt n with state := .trailing, deadline := some (s.route.clock + 2 * s.store.live.grace) })
  else s.segAt n

/-- The Revisit List after the segments of `l` are settled. -/
def State.revisitAfter (s : State) (l : List Nat) : List Nat :=
  s.seg.revisit.filter (fun n => !(decide (n ∈ l) && s.wakes n)) ++ (if s.store.live.grace = 0 then l.filter s.leaves else [])

/-- The pending causes after the segments of `l` are settled. -/
def State.causesAfter (s : State) (l : List Nat) : BitVec 8 :=
  if s.store.live.grace = 0 ∧ l.filter s.leaves ≠ [] then s.port.causes ||| attSegmentMissed else s.port.causes

/-- The part with the segments of `l` settled, their entries in `table`. -/
def State.applying (s : State) (l : List Nat) (table : List (Nat × SegEntry)) : State :=
  { s with
    seg := { table := table, staged := s.seg.staged, applied := s.seg.staged, revisit := s.revisitAfter l }
    port.causes := s.causesAfter l }

theorem wakes_enters (h : s.wakes n = true) : s.enters n = true := (Bool.and_eq_true_iff.1 h).1

theorem enters_not_leaves (h : s.enters n = true) : s.leaves n = false := by
  obtain ⟨hnew, -⟩ := Bool.and_eq_true_iff.1 h
  simp [State.leaves, hnew]

/-! ## One more segment -/

theorem filter_leaves_append (l : List Nat) (n : Nat) :
    (l ++ [n]).filter s.leaves = l.filter s.leaves ++ if s.leaves n = true then [n] else [] := by
  rw [List.filter_append]
  by_cases hl : s.leaves n = true <;> simp [hl]

theorem revisitAfter_wakes (hn : n ∉ l) (hw : s.wakes n = true) :
    s.revisitAfter (l ++ [n]) = (s.revisitAfter l).filter (· != n) := by
  have hleaves := enters_not_leaves (wakes_enters hw)
  rw [State.revisitAfter, State.revisitAfter, filter_leaves_append, hleaves, List.filter_append, List.filter_filter]
  congr 1
  · refine List.filter_congr fun m _ => ?_
    by_cases hm : m = n
    · simp [hm, hw]
    · simp [hm]
  · split
    · rw [if_neg (by decide), List.append_nil, List.filter_filter]
      refine (List.filter_congr fun m hm => ?_)
      have hmn : m ≠ n := fun he => hn (he ▸ hm)
      simp [hmn]
    · rfl

theorem revisitAfter_stays (hw : s.wakes n = false) (hl : ¬ (s.store.live.grace = 0 ∧ s.leaves n = true)) :
    s.revisitAfter (l ++ [n]) = s.revisitAfter l := by
  rw [State.revisitAfter, State.revisitAfter]
  congr 1
  · refine List.filter_congr fun m _ => ?_
    by_cases hm : m = n
    · simp [hm, hw]
    · simp [hm]
  · split
    · rename_i hg
      rw [filter_leaves_append, if_neg fun hx => hl ⟨hg, hx⟩, List.append_nil]
    · rfl

theorem revisitAfter_misses (hg : s.store.live.grace = 0) (hl : s.leaves n = true) :
    s.revisitAfter (l ++ [n]) = s.revisitAfter l ++ [n] := by
  have hw : s.wakes n = false := Bool.eq_false_iff.2 fun hw => by
    rw [enters_not_leaves (wakes_enters hw)] at hl
    cases hl
  rw [State.revisitAfter, State.revisitAfter, if_pos hg, if_pos hg, filter_leaves_append, if_pos hl, List.append_assoc]
  congr 1
  refine List.filter_congr fun m _ => ?_
  by_cases hm : m = n
  · simp [hm, hw]
  · simp [hm]

theorem causesAfter_stays (hl : ¬ (s.store.live.grace = 0 ∧ s.leaves n = true)) : s.causesAfter (l ++ [n]) = s.causesAfter l := by
  rw [State.causesAfter, State.causesAfter, filter_leaves_append]
  by_cases hg : s.store.live.grace = 0
  · rw [if_neg fun hx => hl ⟨hg, hx⟩, List.append_nil]
  · simp [hg]

theorem causesAfter_misses (hg : s.store.live.grace = 0) (hl : s.leaves n = true) :
    s.causesAfter (l ++ [n]) = s.causesAfter l ||| attSegmentMissed := by
  rw [State.causesAfter, State.causesAfter, filter_leaves_append, if_pos hl, if_pos ⟨hg, by simp⟩]
  split
  · rw [BitVec.or_assoc, BitVec.or_self]
  · rfl

/-- What stands of an apply when the segments of `l` are settled. -/
structure Applied (s : State) (l : List Nat) (a : Applying) : Prop where
  frame    : a.state = s.applying l a.state.seg.table
  entries  : ∀ n, a.state.segAt n = if n ∈ l then s.settled n else s.segAt n
  active   : a.active = (l.filter s.wakes).length
  trailing : a.trailing = if s.store.live.grace = 0 then 0 else (l.filter s.leaves).length
  missed   : a.missed = if s.store.live.grace = 0 then (l.filter s.leaves).length else 0

/-- The entries after one more segment is settled. -/
theorem Applied.entries_snoc {a : Applying} (h : Applied s l a) {t : State} (hn : t.segAt n = s.settled n)
    (hother : ∀ m, m ≠ n → t.segAt m = a.state.segAt m) (m : Nat) :
    t.segAt m = if m ∈ l ++ [n] then s.settled m else s.segAt m := by
  by_cases hm : m = n
  · rw [hm, hn, if_pos (by simp)]
  · rw [hother m hm, h.entries m]
    simp [hm]

theorem length_filter_append (p : Nat → Bool) (l : List Nat) (n : Nat) :
    ((l ++ [n]).filter p).length = (l.filter p).length + if p n = true then 1 else 0 := by
  by_cases hp : p n = true <;> simp [List.filter_append, hp]

theorem Applied.snoc {a : Applying} (h : Applied s l a) (hn : n ∉ l) :
    Applied s (l ++ [n]) (applySeg s.seg.applied s.seg.staged s.store.live.grace a n) := by
  have hentry : a.state.segAt n = s.segAt n := by rw [h.entries, if_neg hn]
  have hstays (hw : s.wakes n = false) (hl : s.leaves n = false) {t : State} (ht : t = { a.state with seg.table := t.seg.table })
      (hset : t.segAt n = s.settled n) (hother : ∀ m, m ≠ n → t.segAt m = a.state.segAt m) :
      Applied s (l ++ [n]) { a with state := t } := by
    have hnl : ¬ (s.store.live.grace = 0 ∧ s.leaves n = true) := fun hx => by rw [hl] at hx; cases hx.2
    refine ⟨?_, h.entries_snoc hset hother, ?_, ?_, ?_⟩
    · refine ht.trans ?_
      rw [h.frame, State.applying, State.applying, revisitAfter_stays hw hnl, causesAfter_stays hnl]
    · rw [length_filter_append, hw]
      exact h.active
    · rw [length_filter_append, hl]
      exact h.trailing
    · rw [length_filter_append, hl]
      exact h.missed
  unfold applySeg
  cases hold : s.seg.applied.covers n <;> cases hnew : s.seg.staged.covers n
  case false.false =>
    have he : s.enters n = false := by simp [State.enters, hnew]
    have hw : s.wakes n = false := by simp [State.wakes, he]
    have hl : s.leaves n = false := by simp [State.leaves, hold]
    exact hstays hw hl rfl (by simp [State.settled, hw, he, hl, hentry]) fun _ _ => rfl
  case true.true =>
    have he : s.enters n = false := by simp [State.enters, hold]
    have hw : s.wakes n = false := by simp [State.wakes, he]
    have hl : s.leaves n = false := by simp [State.leaves, hnew]
    exact hstays hw hl rfl (by simp [State.settled, hw, he, hl, hentry]) fun _ _ => rfl
  case false.true =>
    have he : s.enters n = true := by simp [State.enters, hnew, hold]
    have hl : s.leaves n = false := enters_not_leaves he
    have hnl : ¬ (s.store.live.grace = 0 ∧ s.leaves n = true) := fun hx => by rw [hl] at hx; cases hx.2
    have hcover : coverSeg n a
        = if s.wakes n = true then
            { a with
              state := activateSeg n (setSeg n { s.segAt n with visited := true } a.state), active := a.active + 1 }
          else { a with state := setSeg n { s.segAt n with visited := true } a.state } := by
      unfold coverSeg
      rw [hentry, State.wakes, he]
      cases hst : (s.segAt n).state <;> simp [hst]
    rw [hcover]
    by_cases hw : s.wakes n = true
    · rw [if_pos hw]
      refine ⟨?_, h.entries_snoc ?_ fun m hm => ?_, ?_, ?_, ?_⟩
      · show activateSeg n (setSeg n _ a.state) = _
        rw [activateSeg_eq, State.applying, revisitAfter_wakes hn hw, causesAfter_stays hnl]
        conv_lhs => rw [h.frame]
        rfl
      · show (setSeg n _ (setSeg n _ a.state)).segAt n = _
        rw [segAt_setSeg, if_pos rfl, State.settled, if_pos hw]
        show { (setSeg n _ a.state).segAt n with state := SegState.active, deadline := none } = _
        rw [segAt_setSeg, if_pos rfl]
      · show (setSeg n _ (setSeg n _ a.state)).segAt m = _
        rw [segAt_setSeg, if_neg hm]
        show (setSeg n _ a.state).segAt m = _
        rw [segAt_setSeg, if_neg hm]
      · rw [length_filter_append, if_pos hw]
        exact congrArg (· + 1) h.active
      · rw [length_filter_append, hl]
        exact h.trailing
      · rw [length_filter_append, hl]
        exact h.missed
    · rw [if_neg hw]
      have hw := Bool.eq_false_iff.2 hw
      refine hstays hw hl rfl ?_ fun m hm => ?_
      · rw [segAt_setSeg, if_pos rfl, State.settled, hw, he]
        rfl
      · rw [segAt_setSeg, if_neg hm]
  case true.false =>
    have he : s.enters n = false := by simp [State.enters, hnew]
    have hw : s.wakes n = false := by simp [State.wakes, he]
    have hleaves : s.leaves n = decide ((s.segAt n).state = .active) := by simp [State.leaves, hold, hnew]
    show Applied s (l ++ [n]) (uncoverSeg s.store.live.grace n a)
    unfold uncoverSeg
    rw [hentry]
    by_cases ha : (s.segAt n).state = .active
    · have hl : s.leaves n = true := by rw [hleaves, decide_eq_true ha]
      rw [if_pos ha]
      by_cases hg : s.store.live.grace = 0
      · rw [if_pos hg]
        refine ⟨?_, h.entries_snoc ?_ fun m hm => ?_, ?_, ?_, ?_⟩
        · show missSeg n a.state = _
          rw [missSeg_eq, State.applying, revisitAfter_misses hg hl, causesAfter_misses hg hl]
          conv_lhs => rw [h.frame]
          rfl
        · show (setSeg n { a.state.segAt n with state := .missed, deadline := none } a.state).segAt n = _
          rw [segAt_setSeg, if_pos rfl, State.settled, hw, he, hl, hentry]
          simp [hg]
        · show (setSeg n { a.state.segAt n with state := .missed, deadline := none } a.state).segAt m = _
          rw [segAt_setSeg, if_neg hm]
        · rw [length_filter_append, hw]
          exact h.active
        · rw [if_pos hg]
          exact h.trailing.trans (if_pos hg)
        · rw [if_pos hg, length_filter_append, if_pos hl]
          exact congrArg (· + 1) (h.missed.trans (if_pos hg))
      · have hnl : ¬ (s.store.live.grace = 0 ∧ s.leaves n = true) := fun hx => hg hx.1
        have hclock : a.state.route.clock = s.route.clock := by rw [h.frame]; rfl
        rw [if_neg hg, hclock]
        refine ⟨?_, h.entries_snoc ?_ fun m hm => ?_, ?_, ?_, ?_⟩
        · show setSeg n _ a.state = _
          rw [State.applying, revisitAfter_stays hw hnl, causesAfter_stays hnl]
          conv_lhs => rw [h.frame]
          rfl
        · show (setSeg n _ a.state).segAt n = _
          rw [segAt_setSeg, if_pos rfl, State.settled, hw, he, hl]
          simp [hg]
        · show (setSeg n _ a.state).segAt m = _
          rw [segAt_setSeg, if_neg hm]
        · rw [length_filter_append, hw]
          exact h.active
        · rw [if_neg hg, length_filter_append, if_pos hl]
          exact congrArg (· + 1) (h.trailing.trans (if_neg hg))
        · rw [if_neg hg]
          exact h.missed.trans (if_neg hg)
    · rw [if_neg ha]
      have hl : s.leaves n = false := by rw [hleaves, decide_eq_false ha]
      exact hstays hw hl rfl (by simp [State.settled, hw, he, hl, hentry]) fun _ _ => rfl

/-- What an apply leaves: every segment settled. -/
theorem applyWindows_applied (s : State) : Applied s (List.range 1024) (applyWindows s) := by
  have hall : ∀ k, Applied s (List.range k)
      ((List.range k).foldl (applySeg s.seg.applied s.seg.staged s.store.live.grace) { state := { s with seg.applied := s.seg.staged } }) := by
    intro k
    induction k with
    | zero => exact ⟨by simp [State.applying, State.revisitAfter, State.causesAfter], fun n => rfl, rfl, by simp, by simp⟩
    | succ k ih =>
      rw [List.range_succ, List.foldl_append]
      exact ih.snoc (by simp)
  exact hall 1024

/-! ## The apply keeps the laws -/

theorem segsCanonical_applySeg {old new : Windows} {grace : Nat} {a : Applying} (hn : n < 1024)
    (h : segsCanonical a.state.seg.table) : segsCanonical (applySeg old new grace a n).state.seg.table := by
  have hset {t : State} (ht : segsCanonical t.seg.table) (e : SegEntry) : segsCanonical (setSeg n e t).seg.table :=
    segsCanonical_putSeg ht hn e
  unfold applySeg
  split
  · unfold coverSeg
    dsimp only
    split
    · exact hset (hset h _) _
    · exact hset (hset h _) _
    · exact hset (hset h _) _
    · exact hset (hset h _) _
    · exact hset h _
    · exact hset h _
    · exact hset h _
    · exact hset h _
  · unfold uncoverSeg
    dsimp only
    split
    · split
      · exact segsCanonical_putSeg h hn { a.state.segAt n with state := .missed, deadline := none }
      · exact hset h _
    · exact h
  · exact h
  · exact h

theorem segsCanonical_applySegs {old new : Windows} {grace : Nat} {a : Applying} (h : segsCanonical a.state.seg.table)
    (hl : ∀ n ∈ l, n < 1024) : segsCanonical (l.foldl (applySeg old new grace) a).state.seg.table := by
  induction l generalizing a with
  | nil => exact h
  | cons n t ih => exact ih (segsCanonical_applySeg (hl n (by simp)) h) fun m hm => hl m (by simp [hm])

theorem segsCanonical_applyWindows (h : segsCanonical s.seg.table) : segsCanonical (applyWindows s).state.seg.table := by
  unfold applyWindows
  refine segsCanonical_applySegs ?_ fun n hn => List.mem_range.1 hn
  exact h

/-- A settled segment of an ACTIVE route is sound under the staged windows. -/
theorem EntrySound.settled {c : (RecState → Bool) → Nat} (h : EntrySound .active (s.seg.applied.covers n) c (s.segAt n)) :
    EntrySound .active (s.seg.staged.covers n) c (s.settled n) := by
  have hfits := h.fits (by decide)
  have hvisited := h.visited
  have hdeadline := h.deadline
  have hcounts {e : SegEntry} (hm : e.members = (s.segAt n).members) (hr : e.read = (s.segAt n).read)
      (hf : e.flagged = (s.segAt n).flagged) (hfit : e.fits (s.seg.staged.covers n))
      (hd : e.deadline.isSome = true ↔ e.state = .trailing) (hv : s.seg.staged.covers n = true → e.visited = true) :
      EntrySound .active (s.seg.staged.covers n) c e :=
    ⟨hm.trans h.members, hr.trans h.read, hf.trans h.flagged, fun _ => hfit, fun hc => (by cases hc), hd, hv,
      fun ha => absurd rfl ha⟩
  unfold State.settled
  split
  · rename_i hw
    have hnew := (Bool.and_eq_true_iff.1 (wakes_enters hw)).1
    refine hcounts rfl rfl rfl ⟨?_, hnew⟩ (by simp) fun _ => rfl
    have howes : (s.segAt n).state = .pending ∨ (s.segAt n).state = .trailing ∨ (s.segAt n).state = .missed
        ∨ (s.segAt n).state = .waived := by
      have := (Bool.and_eq_true_iff.1 hw).2
      simpa [or_assoc] using this
    rcases howes with hs | hs | hs | hs <;> rw [SegEntry.fits, hs] at hfits <;> exact hfits.1
  · rename_i hw
    split
    · rename_i he
      obtain ⟨hnew, hold⟩ := Bool.and_eq_true_iff.1 he
      have hold : s.seg.applied.covers n = false := by simpa using hold
      rw [hold] at hfits
      rw [State.wakes, he, Bool.true_and] at hw
      refine hcounts rfl rfl rfl ?_ hdeadline fun _ => rfl
      cases hs : (s.segAt n).state <;> rw [SegEntry.fits, hs] at hfits <;> simp [hs] at hw hfits ⊢ <;>
        simp [SegEntry.fits, hfits]
    · rename_i he
      split
      · rename_i hl
        obtain ⟨hcov, hs⟩ := Bool.and_eq_true_iff.1 hl
        obtain ⟨hold, hnew⟩ := Bool.and_eq_true_iff.1 hcov
        have hnew : s.seg.staged.covers n = false := by simpa using hnew
        have hs : (s.segAt n).state = .active := of_decide_eq_true hs
        rw [SegEntry.fits, hs] at hfits
        split
        · exact hcounts rfl rfl rfl ⟨hfits.1, hnew, hvisited hold⟩ (by simp) fun _ => hvisited hold
        · exact hcounts rfl rfl rfl ⟨hfits.1, hnew, hvisited hold⟩ (by simp) fun _ => hvisited hold
      · rename_i hl
        have hsame : s.seg.staged.covers n = true → s.seg.applied.covers n = true := fun hnew => by
          by_contra hold
          exact he (by simp [State.enters, hnew, hold])
        refine hcounts rfl rfl rfl ?_ hdeadline fun hnew => hvisited (hsame hnew)
        cases hnew : s.seg.staged.covers n with
        | true => rwa [hsame hnew] at hfits
        | false =>
          cases hold : s.seg.applied.covers n with
          | false => rwa [hold] at hfits
          | true =>
            rw [hold] at hfits
            have hna : (s.segAt n).state ≠ .active := fun hs => hl (by simp [State.leaves, hold, hnew, hs])
            cases hs : (s.segAt n).state <;> rw [SegEntry.fits, hs] at hfits <;> simp [hs] at hna hfits <;>
              simp [SegEntry.fits, hs, hfits]

/-- The Revisit List of the settled segments names the MISSED ones, each once. -/
theorem revisitAfter_all (h : SegmentsSound s.seg .active s.roster.slots) :
    (s.revisitAfter (List.range 1024)).Nodup
    ∧ ∀ n, n ∈ s.revisitAfter (List.range 1024) ↔ n < 1024 ∧ (s.settled n).state = .missed := by
  have hleaves : ∀ n, n ∈ (if s.store.live.grace = 0 then (List.range 1024).filter s.leaves else [])
      ↔ n < 1024 ∧ s.store.live.grace = 0 ∧ s.leaves n = true := fun n => by
    split
    · rename_i hg
      simp [hg]
    · rename_i hg
      simp [hg]
  have hactive : ∀ n, s.leaves n = true → (s.segAt n).state = .active := fun n hl => of_decide_eq_true (Bool.and_eq_true_iff.1 hl).2
  constructor
  · refine List.nodup_append.2 ⟨h.revisitNodup.filter _, ?_, fun a ha b hb hab => ?_⟩
    · split
      · exact List.nodup_range.filter _
      · exact List.nodup_nil
    · obtain ⟨-, -, hl⟩ := (hleaves b).1 hb
      have hm : (s.segAt a).state = .missed := ((h.revisit a).1 (List.mem_filter.1 ha).1).2
      rw [hab] at hm
      cases hm.symm.trans (hactive b hl)
  · intro n
    rw [State.revisitAfter, List.mem_append, hleaves, List.mem_filter, h.revisit]
    show (n < 1024 ∧ (s.segAt n).state = .missed) ∧ _ ∨ _ ↔ _
    unfold State.settled
    by_cases hn : n < 1024
    · by_cases hw : s.wakes n = true
      · have hl := enters_not_leaves (wakes_enters hw)
        simp [hn, hw, hl]
      · by_cases hl : s.leaves n = true
        · have he : s.enters n = false := Bool.eq_false_iff.2 fun he => by
            rw [enters_not_leaves he] at hl
            cases hl
          by_cases hg : s.store.live.grace = 0 <;> simp [hn, hw, hl, he, hg, hactive n hl]
        · by_cases he : s.enters n = true <;> simp [hn, hw, hl, he]
    · simp [hn]

theorem State.Live.applyWindows (h : s.Live loose) (ha : s.route.state = .active) : (applyWindows s).state.Live loose := by
  have happlied := applyWindows_applied s
  have hcanonical := segsCanonical_applyWindows h.segments.canonical
  have hframe := happlied.frame
  have hentries := happlied.entries
  generalize (Machine.applyWindows s).state = t at hcanonical hframe hentries ⊢
  have hg := h.segments
  rw [ha] at hg
  obtain ⟨hnodup, hrevisit⟩ := revisitAfter_all hg
  have hsegs : SegmentsSound t.seg .active s.roster.slots := by
    have hseg : t.seg = (s.applying (List.range 1024) t.seg.table).seg := congrArg State.seg hframe
    have happlied : t.seg.applied = s.seg.staged := by rw [hseg, State.applying]
    have hstaged : t.seg.staged = s.seg.staged := by rw [hseg, State.applying]
    have hlist : t.seg.revisit = s.revisitAfter (List.range 1024) := by rw [hseg, State.applying]
    have hentry : ∀ n, n < 1024 → entryIn t.seg.table n = s.settled n := fun n hn => by
      rw [show entryIn t.seg.table n = _ from hentries n, if_pos (List.mem_range.2 hn)]
    exact
      { canonical := hcanonical
        each := fun n hn => by
          rw [happlied, hentry n hn]
          exact (hg.each n hn).settled
        revisitNodup := hlist ▸ hnodup
        revisit := fun n => by
          rw [hlist, hrevisit]
          exact and_congr_right fun hn => by rw [hentry n hn]
        staged := hstaged ▸ hg.staged
        applied := happlied ▸ hg.staged
        appliedZero := fun hx => absurd rfl hx
        stagedZero := fun hx => absurd rfl hx }
  rw [hframe] at hsegs ⊢
  exact { h with
    segments := by
      show SegmentsSound _ s.route.state _
      rw [ha]
      exact hsegs }

theorem commandWindowApply_lawful (args : List Byte) (h : s.Live []) : Lawful (commandWindowApply args s) := by
  unfold commandWindowApply
  split
  · rename_i ha
    exact (h.applyWindows ha).reply _ (by simp)
  · exact h.reply _ (by simp)

end Sys2Proof.Machine

/-! PROOFS. The settings, the profiles, the counters and the Command Port's own commands keep the laws of a running part. -/

namespace Sys2Proof.Machine

variable {s : State} {loose : List Nat}

/-! ## Settings in their ranges (R198, R205) -/

theorem profileOf_inRange (bs : List Byte) : (profileOf bs).inRange := by
  refine ⟨Nat.le_max_left _ _, Nat.max_le.2 ⟨by decide, Nat.min_le_left _ _⟩, Nat.le_of_lt_succ (byteAt bs 1).isLt,
    Nat.min_le_left _ _, by simp [profileOf], fun w hw => ?_⟩
  obtain ⟨i, -, rfl⟩ := List.mem_map.1 hw
  exact Nat.le_of_lt_succ (byteAt bs (3 + i)).isLt

theorem Settings.inRange.write {t : Settings} (h : t.inRange) (sel : Byte) (bs : List Byte) : (t.write sel bs).inRange := by
  obtain ⟨hgrace, htimeout, htimeout', hprofiles⟩ := h
  refine ⟨?_, ?_, ?_, hprofiles⟩
  · show (if sel.getLsbD 3 = true then graceOf (byteAt bs 9) else t.grace) ≤ 127
    split
    · exact Nat.min_le_left _ _
    · exact hgrace
  · show 1 ≤ if sel.getLsbD 4 = true then timeoutOf (byteAt bs 10) else t.timeout
    split
    · exact Nat.le_max_left _ _
    · exact htimeout
  · show (if sel.getLsbD 4 = true then timeoutOf (byteAt bs 10) else t.timeout) ≤ 127
    split
    · exact Nat.max_le.2 ⟨by decide, Nat.min_le_left _ _⟩
    · exact htimeout'

/-- What an image gives is in range, whatever it holds (R205). -/
theorem settingsOf_inRange (bs : List Byte) : (settingsOf bs).inRange := by
  obtain ⟨hgrace, htimeout, htimeout', -⟩ := defaultSettings_inRange.write 0x3F#8 bs
  refine ⟨hgrace, htimeout, htimeout', fun p hp => ?_⟩
  obtain ⟨i, -, rfl⟩ := List.mem_iff_getElem.1 hp
  simp only [settingsOf, Vector.getElem_toList, Vector.getElem_ofFn]
  exact profileOf_inRange _

/-- The records stay sound under settings that leave each of them in its ranges. -/
theorem RecordsSound.resettle {get : Nat → Option Record} {route : RouteState} {live live' : Settings} {ev : EvalUnit}
    {chain : List Nat} (h : RecordsSound get route live ev chain)
    (hrange : ∀ n r, get n = some r → r.inRange (modulusOf (live.profileAt r.profile).digits) →
      r.inRange (modulusOf (live'.profileAt r.profile).digits)) : RecordsSound get route live' ev chain :=
  { h with each := fun n r hr => { h.each n r hr with inRange := hrange n r hr (h.each n r hr).inRange } }

/-! ## PROFILE WRITE and PROFILE READ (R12, R13) -/

theorem profileAt_set (t : Settings) {n : Nat} (h : n < 16) (p : Profile) (k : Nat) :
    ({ t with profiles := t.profiles.set n p h } : Settings).profileAt k = if k = n then p else t.profileAt k := by
  unfold Settings.profileAt
  by_cases hk : k = n
  · subst hk
    simp
  · rw [if_neg hk, Vector.getElem?_set_ne h (Ne.symm hk)]

/-- A record that does not clash with the new profile stays in its ranges (R12). -/
theorem Record.inRange.reprofile {live : Settings} {r : Record} {n : Nat} (hn : n < 16) {p : Profile}
    (h : r.inRange (modulusOf (live.profileAt r.profile).digits)) (hc : profileClash n (modulusOf p.digits) r = false) :
    r.inRange (modulusOf (({ live with profiles := live.profiles.set n p hn } : Settings).profileAt r.profile).digits) := by
  rw [profileAt_set]
  split
  · rename_i hp
    have hclash := mt (profileClash_iff n (modulusOf p.digits) r).2 (by rw [hc]; decide)
    obtain ⟨hbase, hvalue⟩ := not_or.1 fun hx => hclash ⟨hp, hx⟩
    obtain ⟨hid, hid', hprofile, hseg, -, hage, hbands, hhigh, hhear, hreading, hsignal, hresult⟩ := h
    exact ⟨hid, hid', hprofile, hseg, Nat.lt_of_not_le hbase, hage, hbands, hhigh, hhear,
      fun x hx => ⟨Nat.lt_of_not_le fun hv => hvalue ⟨x, hx, hv⟩, (hreading x hx).2⟩, hsignal, hresult⟩
  · exact h

theorem commandProfileWrite_lawful (args : List Byte) (h : s.Live []) : Lawful (commandProfileWrite args s) := by
  unfold commandProfileWrite
  dsimp only
  split
  · exact h.reply _ (by simp)
  · split
    · rename_i hn
      split
      · exact h.reply _ (by simp)
      · rename_i hclash
        obtain ⟨⟨hgrace, htimeout, htimeout', hprofiles⟩, hcopy, himage⟩ := h.settings
        have hlive : ({ s with store.live.profiles :=
            s.store.live.profiles.set (byteAt args 0).toNat (profileOf (args.drop 1)) hn } : State).Live [] :=
          { h with
            records := h.records.resettle fun n r hr hrange => hrange.reprofile hn (by
              have hall := List.any_eq_false.1 (Bool.eq_false_iff.2 hclash) (n, r) (mem_of_tableGet hr)
              exact Bool.eq_false_iff.2 hall)
            settings := ⟨⟨hgrace, htimeout, htimeout', fun p hp => by
              rcases List.mem_or_eq_of_mem_set (by rwa [Vector.toList_set] at hp) with hp | rfl
              · exact hprofiles p hp
              · exact profileOf_inRange _⟩, hcopy, himage⟩ }
        exact hlive.reply _ (by simp [Profile.bytes_length])
    · exact h.reply _ (by simp)

theorem commandProfileRead_lawful (args : List Byte) (h : s.Live []) : Lawful (commandProfileRead args s) := by
  unfold commandProfileRead
  dsimp only
  split
  · exact h.reply _ (by simp [Profile.bytes_length])
  · exact h.reply _ (by simp)

/-! ## The settings commands (R201, R203, R204) -/

/-- A channel whose enable changes stays in its ranges, and one that is disabled waits for a gap (R50). -/
theorem Channel.inRange.enableChange {c : Channel} (h : c.inRange) (was now : Bool) (hw : was = false → c.rx = .gapWait) :
    (enableChange was now c).inRange ∧ (now = false → (enableChange was now c).rx = .gapWait) := by
  obtain ⟨hlen, hwords, hcount, hbytes, hword, hstats⟩ := h
  unfold Machine.enableChange
  cases was <;> cases now
  · exact ⟨⟨hlen, hwords, hcount, hbytes, hword, hstats⟩, fun _ => hw rfl⟩
  · exact ⟨⟨hlen, hwords, hcount, hbytes, hword, hstats⟩, fun hn => (by cases hn)⟩
  · exact ⟨⟨hlen, hwords, Nat.zero_le _, rfl, fun _ => rfl, hstats⟩, fun _ => rfl⟩
  · exact ⟨⟨hlen, hwords, hcount, hbytes, hword, hstats⟩, fun hn => (by cases hn)⟩

theorem enableChanges_get (was now : Quad Bool) (q : Quad Channel) (ch : Fin 4) :
    (enableChanges was now q).get ch = enableChange (was.get ch) (now.get ch) (q.get ch) := by
  fin_cases ch <;> rfl

theorem commandSettingsWrite_lawful (args : List Byte) (h : s.Live []) : Lawful (commandSettingsWrite args s) := by
  unfold commandSettingsWrite
  split
  · exact h.reply _ (by simp)
  · obtain ⟨hrange, hcopy, himage⟩ := h.settings
    have hlive : ({ s with
        store.live := s.store.live.write (byteAt args 0) (args.drop 1)
        channels := enableChanges s.store.live.enables (s.store.live.write (byteAt args 0) (args.drop 1)).enables s.channels }
        : State).Live [] :=
      { h with
        records := h.records.resettle fun _ _ _ hr => hr
        channel := fun ch => by
          obtain ⟨hc, hrx⟩ := h.channel ch
          have hchange := hc.enableChange (s.store.live.enables.get ch)
            ((s.store.live.write (byteAt args 0) (args.drop 1)).enables.get ch) hrx
          rw [← enableChanges_get] at hchange
          exact hchange
        settings := ⟨hrange.write _ _, hcopy, himage⟩ }
    exact hlive.reply _ (by rw [Settings.bytes_length]; decide)

theorem commandSettingsCommit_lawful (args : List Byte) (h : s.Live []) : Lawful (commandSettingsCommit args s) := by
  unfold commandSettingsCommit
  split
  · exact h.reply _ (by simp)
  · obtain ⟨hrange, -, himage⟩ := h.settings
    have hlive : ({ s with store.commit := some { copy := s.store.live, check := imageCheck s.store.live.imageBody } }
        : State).Live [] :=
      { h with settings := ⟨hrange, fun c hc => by obtain rfl := Option.some.inj hc; exact ⟨hrange, rfl⟩, himage⟩ }
    exact hlive.reply _ (by simp)

theorem commandIndicatorSet_lawful (args : List Byte) (h : s.Live []) : Lawful (commandIndicatorSet args s) := by
  unfold commandIndicatorSet
  split
  · rename_i hn
    have hlive (q : Quad Source) : ({ s with store.live.sources := q } : State).Live [] :=
      { h with
        records := h.records.resettle fun _ _ _ hr => hr
        settings := h.settings }
    exact (hlive _).reply _ (by simp [sourceBytes])
  · exact h.reply _ (by simp)

/-! ## Counters and the Command Port's own commands (R61, R62, R189, R191, R194) -/

theorem commandChannelStats_lawful (args : List Byte) (h : s.Live []) : Lawful (commandChannelStats args s) := by
  unfold commandChannelStats
  split
  · rename_i hn
    dsimp only
    have hdata (a b c : Nat) (st : Stats) : (beBytes 1 a ++ beBytes 1 b ++ beBytes 1 c ++ st.bytes).length ≤ 255 := by
      simp [Stats.bytes]
    split
    · exact h.reply _ (hdata _ _ _ _)
    · obtain ⟨⟨hlen, hwords, hcount, hbytes, hword, -⟩, hrx⟩ := h.channel ⟨(byteAt args 0).toNat, hn⟩
      refine State.Live.reply (h.setChannel (c := { s.channels.get ⟨(byteAt args 0).toNat, hn⟩ with stats := {} }) ?_ hrx) _
        (hdata _ _ _ _)
      exact ⟨hlen, hwords, hcount, hbytes, hword, (Stats.inRange_iff {}).2 fun k => by cases k <;> exact Nat.zero_le _⟩
  · exact h.reply _ (by simp)

theorem statusBytes_length (s : State) : s.statusBytes.length = 49 := by
  unfold State.statusBytes
  repeat rw [List.length_append]
  repeat rw [beBytes_length]
  rfl

theorem commandStatus_lawful (args : List Byte) (h : s.Live []) : Lawful (commandStatus args s) :=
  h.reply _ (by rw [statusBytes_length]; decide)

theorem commandReadCauses_lawful (args : List Byte) (h : s.Live []) : Lawful (commandReadCauses args s) := by
  have hlive : ({ s with port.causes := 0#8 } : State).Live [] := { h with port := h.port }
  exact hlive.reply _ (by simp)

/-- A transaction that the port takes finds the part listening (R186). -/
theorem takes_listens {dropped : Bool} (h : s.takes dropped = true) : s.listens := by
  rw [State.takes, Bool.and_eq_true] at h
  exact (listens_iff s).2 h.1

theorem execResponse_lawful (clocked : Nat) (dropped : Bool) (h : s.Laws) : Lawful (execResponse clocked dropped s) := by
  unfold execResponse
  split
  · rename_i ht
    have hl := h.live (takes_listens ht)
    refine State.Live.lawful { hl with port := ⟨hl.port.1, fun r hr => ?_, hl.port.2.2⟩ }
    have hr : (if s.port.responseBytes.length ≤ clocked then none else s.port.buffer) = some r := hr
    split at hr
    · cases hr
    · exact hl.port.2.1 r hr
  · exact ⟨s, rfl, h⟩

end Sys2Proof.Machine

/-! PROOFS. The outstanding blocks: their release, their expiry and their abandonment keep the laws of a running part. -/

namespace Sys2Proof.Machine

variable {s : State} {loose rest slots : List Nat}

/-! ## Records released (R5) -/

@[simp] theorem Record.release_eq (r : Record) : r.release = { r with upload := .idle } := rfl

/-- A released record keeps everything but its upload state. -/
theorem RecordSound.release {route : RouteState} {live : Settings} {ev : EvalUnit} {chain : List Nat} {n : Nat} {r : Record}
    (h : RecordSound route live ev chain n r) : RecordSound route live ev chain n r.release := by
  obtain ⟨hread, hsig, hnone, hres, hdone, hflag, hrev, -⟩ := h.holds
  exact { h with holds := ⟨hread, hsig, hnone, hres, hdone, hflag, hrev, fun hc => (by cases hc)⟩ }

/-- The slots at the front of the carried ones outside the table are released. -/
theorem BlocksSound.release {u : Upload} {get get' : Nat → Option Record} {l : LinkState}
    (h : BlocksSound (slots ++ rest) u get l)
    (hget : ∀ n, get' n = (get n).map (fun r => if n ∈ slots then r.release else r)) : BlocksSound rest u get' l := by
  have hdisjoint := h.nodup
  rw [List.append_assoc] at hdisjoint
  have hkept {n : Nat} (hn : n ∈ rest ++ u.table.flatMap (fun o => o.slots)) : get' n = get n := by
    have hout : n ∉ slots := fun hs => List.disjoint_of_nodup_append hdisjoint hs hn
    rw [hget]
    cases get n <;> simp [hout]
  refine { h with
    nodup := (List.nodup_append.1 hdisjoint).2.1
    each := fun o ho =>
      { h.each o ho with
        carries := fun n hn => by
          rw [hkept (List.mem_append_right _ (List.mem_flatMap.2 ⟨o, ho, hn⟩))]
          exact (h.each o ho).carries n hn }
    carriers := fun n r hr hc => ?_
    loose := fun n hn => by
      rw [hkept (List.mem_append_left _ hn)]
      exact h.loose n (List.mem_append_right _ hn) }
  rw [hget, Option.map_eq_some_iff] at hr
  obtain ⟨q, hq, rfl⟩ := hr
  split at hc
  · cases hc
  · rename_i hout
    exact (h.carriers n q hq hc).imp_left fun hl => (List.mem_append.1 hl).resolve_left hout

/-- The roster with the records of the listed slots released. -/
def State.released (s : State) (slots : List Nat) : State :=
  { s with roster.slots := s.roster.slots.map (fun e => (e.1, if e.1 ∈ slots then e.2.release else e.2)) }

theorem State.Live.released (h : s.Live (slots ++ rest)) : (s.released slots).Live rest := by
  have hget : ∀ n, (s.released slots).recordAt n = (s.recordAt n).map (fun r => if n ∈ slots then r.release else r) := fun n =>
    tableGet_map (fun (n : Nat) (r : Record) => if n ∈ slots then r.release else r) s.roster.slots n
  exact { h with
    roster := h.roster.remap (f := fun n r => if n ∈ slots then r.release else r) fun n r _ => by
      split <;> rfl
    records := h.records.remap (f := fun n r => if n ∈ slots then r.release else r) hget
      (fun n r _ hr => by
        split
        · exact hr.release
        · exact hr)
      fun n r _ => by split <;> rfl
    segments := h.segments.recount (countIn_remap (f := fun n r => if n ∈ slots then r.release else r) fun e _ => by
      split <;> exact ⟨rfl, rfl⟩)
    blocks := h.blocks.release hget }

theorem releaseSlots_released (h : tableRising s.roster.slots = true) (slots : List Nat) :
    releaseSlots slots s = s.released slots :=
  releaseSlots_eq slots h

/-! ## Blocks that leave the table -/

/-- Some blocks leave the Outstanding Table, their records still carried. -/
theorem BlocksSound.loosen {u u' : Upload} {get : Nat → Option Record} {l : LinkState} (h : BlocksSound [] u get l)
    {out kept : List Outstanding} (hperm : u.table.Perm (out ++ kept)) (htable : u'.table = kept)
    (hidle : u'.state = .idle → kept = []) (hbusy : u'.state ≠ .idle → u.state ≠ .idle) (hcounts : u'.counts) :
    BlocksSound (out.flatMap (fun o => o.slots)) u' get l := by
  have hmem {o : Outstanding} (ho : o ∈ kept) : o ∈ u.table := hperm.mem_iff.2 (List.mem_append_right _ ho)
  have hnodup : (u.table.flatMap (fun o => o.slots)).Nodup := h.nodup
  refine ⟨?_, ?_, fun o ho => h.each o (hmem (htable ▸ ho)), fun n r hr hc => ?_, fun n hn => ?_, fun hi => htable.trans (hidle hi),
    fun hne => h.locked fun hu => ?_, fun hi => h.busy (hbusy hi), hcounts⟩
  · have := hperm.length_eq
    have := h.most
    rw [htable]
    simp only [List.length_append] at *
    omega
  · rw [htable, ← List.flatMap_append]
    exact ((hperm.flatMap_right _).nodup_iff).1 hnodup
  · obtain ⟨o, ho, hn⟩ := (h.carriers n r hr hc).resolve_left List.not_mem_nil
    rw [htable]
    exact (List.mem_append.1 (hperm.mem_iff.1 ho)).imp (fun ho => List.mem_flatMap.2 ⟨o, ho, hn⟩) fun ho => ⟨o, ho, hn⟩
  · obtain ⟨o, ho, hn⟩ := List.mem_flatMap.1 hn
    obtain ⟨r, hr, hc, -⟩ := (h.each o (hperm.mem_iff.2 (List.mem_append_left _ ho))).carries n hn
    exact ⟨r, hr, hc⟩
  · rw [hu] at hperm
    have := hperm.length_eq
    refine hne (htable.trans (List.length_eq_zero_iff.1 ?_))
    simp only [List.length_append, List.length_nil] at this
    omega

/-- The Upload Engine is changed with no record left carried outside it. -/
theorem State.Live.setUpload {u : Upload} (h : s.Live loose) (hb : BlocksSound rest u s.recordAt s.link.state) :
    ({ s with upload := u } : State).Live rest :=
  { h with blocks := hb }

/-- One block leaves the table and the counts change. -/
theorem State.Live.loosenOne (h : s.Live []) {o : Outstanding} {p : Outstanding → Bool}
    (ho : s.upload.table.find? p = some o) {u : Upload} (htable : u.table = s.upload.table.eraseP p)
    (hstate : u.state = s.upload.state) (hcounts : u.counts) : ({ s with upload := u } : State).Live (o.slots ++ []) := by
  obtain ⟨hp, as, bs, heq, has⟩ := List.find?_eq_some_iff_append.1 ho
  have herase : s.upload.table.eraseP p = as ++ bs := by
    rw [heq, List.eraseP_append_right _ fun x hx => by simpa using has x hx, List.eraseP_cons_of_pos hp]
  have hperm : s.upload.table.Perm ([o] ++ (as ++ bs)) := heq ▸ List.perm_middle
  refine h.setUpload ?_
  have hb := h.blocks.loosen hperm (htable.trans herase) (fun hi => ?_) (fun hi => hstate ▸ hi) hcounts
  · simpa using hb
  · have hnil := h.blocks.idle (hstate ▸ hi)
    rw [hnil] at ho
    cases ho

/-! ## The expiry of blocks (R178) -/

theorem released_released (s : State) (slots rest : List Nat) :
    (s.released slots).released rest = s.released (slots ++ rest) := by
  unfold State.released
  simp only [List.map_map]
  congr 2
  refine List.map_congr_left fun e _ => ?_
  simp only [Function.comp, List.mem_append]
  by_cases h1 : e.1 ∈ slots <;> by_cases h2 : e.1 ∈ rest <;> simp [h1, h2]

theorem released_nil (s : State) : s.released [] = s := by
  unfold State.released
  simp

/-- The part with the records of `slots` released and counted returned, and `k` timeouts counted. -/
def State.freed (s : State) (slots : List Nat) (k : Nat) : State :=
  { s with
    roster := (s.released slots).roster
    upload := { s.upload with
      returned := min 65535 (s.upload.returned + slots.length)
      timeouts := min 65535 (s.upload.timeouts + k) } }

theorem tableRising_freed (h : tableRising s.roster.slots = true) (slots : List Nat) (k : Nat) :
    tableRising (s.freed slots k).roster.slots = true :=
  tableRising_map (fun e : Nat × Record => if e.1 ∈ slots then e.2.release else e.2) h

theorem freed_freed (s : State) (slots rest : List Nat) (j k : Nat) :
    (s.freed slots j).freed rest k = s.freed (slots ++ rest) (j + k) := by
  have hroster : ((s.released slots).released rest).roster = (s.released (slots ++ rest)).roster :=
    congrArg State.roster (released_released s slots rest)
  have hreturned : min 65535 (min 65535 (s.upload.returned + slots.length) + rest.length)
      = min 65535 (s.upload.returned + (slots ++ rest).length) := by
    rw [List.length_append]
    omega
  have htimeouts : min 65535 (min 65535 (s.upload.timeouts + j) + k) = min 65535 (s.upload.timeouts + (j + k)) := by omega
  calc (s.freed slots j).freed rest k
      = { s with
          roster := ((s.released slots).released rest).roster
          upload := { s.upload with
            returned := min 65535 (min 65535 (s.upload.returned + slots.length) + rest.length)
            timeouts := min 65535 (min 65535 (s.upload.timeouts + j) + k) } } := rfl
    _ = s.freed (slots ++ rest) (j + k) := by rw [hroster, hreturned, htimeouts]; rfl

theorem freed_nil (hr : s.upload.returned ≤ 65535) (ht : s.upload.timeouts ≤ 65535) : s.freed [] 0 = s := by
  unfold State.freed
  rw [released_nil, List.length_nil, Nat.add_zero, Nat.add_zero, Nat.min_eq_right hr, Nat.min_eq_right ht]

theorem expireEntry_eq (h : tableRising s.roster.slots = true) (hr : s.upload.returned ≤ 65535) (o : Outstanding) :
    expireEntry s o = s.freed o.slots 1 := by
  have hdef : expireEntry s o = { releaseSlots o.slots s with
      upload.returned := o.slots.foldl (fun n _ => satInc Config.countTop n) (releaseSlots o.slots s).upload.returned
      upload.timeouts := satInc Config.countTop (releaseSlots o.slots s).upload.timeouts } := rfl
  have hcount := satInc_foldl o.slots (top := Config.countTop) (n := (s.released o.slots).upload.returned) hr
  rw [hdef, releaseSlots_released h, hcount, satInc_eq_min]
  rfl

/-- Entries that expire in their order. -/
theorem expireEntries_eq (h : tableRising s.roster.slots = true) (hr : s.upload.returned ≤ 65535) (ht : s.upload.timeouts ≤ 65535)
    (due : List Outstanding) : due.foldl expireEntry s = s.freed (due.flatMap (fun o => o.slots)) due.length := by
  induction due generalizing s with
  | nil => exact (freed_nil hr ht).symm
  | cons o t ih =>
    rw [List.foldl_cons, expireEntry_eq h hr, ih (tableRising_freed h _ _) (Nat.min_le_left _ _) (Nat.min_le_left _ _),
      freed_freed, List.flatMap_cons, List.length_cons, Nat.add_comm 1]

/-- The entries that a tenth leaves, each with a tenth less (R178). -/
def tenthLeft (table : List Outstanding) : List Outstanding :=
  (table.filter (fun o => !o.due)).map (fun o => { o with tenths := o.tenths - 1 })

/-- The slots of the entries that a tenth brings to 0. -/
def tenthFreed (table : List Outstanding) : List Nat := (table.filter Outstanding.due).flatMap (fun o => o.slots)

/-- The acknowledgement part of a tenth (R178). -/
theorem tenthBlocks_eq (h : tableRising s.roster.slots = true) (hr : s.upload.returned ≤ 65535) (ht : s.upload.timeouts ≤ 65535) :
    tenthBlocks s = { s.freed (tenthFreed s.upload.table) (s.upload.table.filter Outstanding.due).length with
      upload.table := tenthLeft s.upload.table } := by
  rw [tenthBlocks, expireEntries_eq h hr ht]
  rfl

/-- Every entry of the table has a tenth less, none of them reaching 0. -/
theorem BlocksSound.tick {u u' : Upload} {get : Nat → Option Record} {l : LinkState} (h : BlocksSound loose u get l)
    (hleft : ∀ o ∈ u.table, 2 ≤ o.tenths) (htable : u'.table = u.table.map (fun o => { o with tenths := o.tenths - 1 }))
    (hstate : u'.state = u.state) (hcounts : u'.counts) : BlocksSound loose u' get l := by
  obtain ⟨hmost, hnodup, heach, hcarriers, hloose, hidle, hlocked, hbusy, -⟩ := h
  have hslots : u'.table.flatMap (fun o => o.slots) = u.table.flatMap (fun o => o.slots) := by
    rw [htable, List.flatMap_map]
  refine ⟨by rw [htable, List.length_map]; exact hmost, hslots ▸ hnodup, fun o ho => ?_, fun n r hr hc => ?_, hloose,
    fun hi => ?_, fun hne => hlocked fun hu => hne (by rw [htable, hu]; rfl), hstate ▸ hbusy, hcounts⟩
  · rw [htable] at ho
    obtain ⟨q, hq, rfl⟩ := List.mem_map.1 ho
    have hs := heach q hq
    have hl := hleft q hq
    have hmost := hs.tenths'
    exact { hs with tenths := Nat.le_sub_of_add_le hl, tenths' := (Nat.sub_le _ _).trans hmost }
  · refine (hcarriers n r hr hc).imp_right fun ⟨o, ho, hn⟩ => ⟨{ o with tenths := o.tenths - 1 }, ?_, hn⟩
    rw [htable]
    exact List.mem_map.2 ⟨o, ho, rfl⟩
  · rw [htable, hidle (hstate ▸ hi)]
    rfl

theorem State.Live.tenthBlocks (h : s.Live []) : (tenthBlocks s).Live [] := by
  obtain ⟨hcursor, hsent, hretired, hreturned, htimeouts, hstrays, hignored⟩ := h.blocks.counts
  have hperm : s.upload.table.Perm (s.upload.table.filter Outstanding.due ++ s.upload.table.filter (fun o => !o.due)) :=
    (List.filter_append_perm Outstanding.due s.upload.table).symm
  have hloose : ({ s with upload.table := s.upload.table.filter (fun o => !o.due) } : State).Live (tenthFreed s.upload.table) :=
    h.setUpload (h.blocks.loosen hperm rfl (fun hi => by rw [h.blocks.idle hi]; rfl) id h.blocks.counts)
  rw [← List.append_nil (tenthFreed s.upload.table)] at hloose
  have hfreed := hloose.released
  rw [tenthBlocks_eq h.roster.rising hreturned htimeouts]
  refine State.Live.setUpload (s := ({ s with upload.table := s.upload.table.filter (fun o => !o.due) } : State).released
    (tenthFreed s.upload.table)) hfreed (hfreed.blocks.tick (fun o ho => ?_) rfl rfl
      ⟨hcursor, hsent, hretired, Nat.min_le_left _ _, Nat.min_le_left _ _, hstrays, hignored⟩)
  have hdue : (!o.due) = true := (List.mem_filter.1 ho).2
  simp only [Outstanding.due, Bool.not_eq_true', decide_eq_false_iff_not] at hdue
  omega

/-! ## A block returned: refused or expired (R176, R178) -/

theorem State.Live.freeBlock (h : s.Live []) {o : Outstanding} {p : Outstanding → Bool} (ho : s.upload.table.find? p = some o)
    {u : Upload} (htable : u.table = s.upload.table.eraseP p) (hstate : u.state = s.upload.state) (hcounts : u.counts) :
    ({ s with roster := (s.released o.slots).roster, upload := u } : State).Live [] :=
  (h.loosenOne ho htable hstate hcounts).released

/-- A part whose link is not DETACHED has started and is not held. -/
theorem State.Laws.listens_of_link (h : s.Laws) (hd : s.link.state ≠ .detached) : s.listens := by
  have hup := mt h.sound.link.1.2 hd
  exact (listens_iff s).2 (not_not.1 hup).1

theorem State.Laws.live_of_locked (h : s.Laws) (hl : s.link.state = .locked) : s.Live [] :=
  h.live (h.listens_of_link (by rw [hl]; decide))

theorem execBlockExpiry_lawful (block : Byte) (h : s.Laws) : Lawful (execBlockExpiry block s) := by
  unfold execBlockExpiry
  split
  · exact ⟨s, rfl, h⟩
  · rename_i o ho
    have htable : s.upload.table ≠ [] := fun hnil => by rw [hnil] at ho; cases ho
    have hlive := h.live_of_locked (h.sound.blocks.locked htable)
    obtain ⟨hcursor, hsent, hretired, hreturned, htimeouts, hstrays, hignored⟩ := hlive.blocks.counts
    rw [expireEntry_eq hlive.roster.rising hreturned]
    exact State.Live.lawful (hlive.freeBlock ho (u := { s.upload with
      returned := min 65535 (s.upload.returned + o.slots.length)
      timeouts := min 65535 (s.upload.timeouts + 1)
      table := _ }) rfl rfl
      ⟨hcursor, hsent, hretired, Nat.min_le_left _ _, Nat.min_le_left _ _, hstrays, hignored⟩)

/-! ## The loss of the lock (R157, R180) -/

/-- With no block out every record is IDLE, so a release of all blocks releases every record. -/
theorem abandoned_eq (h : s.Sound []) : abandonBlocks s
    = { s with roster.slots := s.slotsReleased, upload := { s.upload with table := [], state := .idle, cursor := some 0 } } := by
  have hmap : s.roster.slots.map (fun e => (e.1, if e.1 ∈ s.upload.table.flatMap (fun o => o.slots) then e.2.release else e.2))
      = s.slotsReleased := by
    refine List.map_congr_left fun e he => ?_
    split
    · rfl
    · rename_i hout
      have hidle : e.2.upload = .idle := by
        cases hu : e.2.upload with
        | idle => rfl
        | carried b m =>
          obtain ⟨o, ho, hn⟩ := (h.blocks.carriers e.1 e.2 (h.roster.get he) (by rw [hu]; rfl)).resolve_left List.not_mem_nil
          exact absurd (List.mem_flatMap.2 ⟨o, ho, hn⟩) hout
      rw [← hidle]
  rw [abandonBlocks_eq h.roster.rising, hmap]

theorem State.Live.abandonBlocks (h : s.Live []) :
    (abandonBlocks s).Live [] ∧ (abandonBlocks s).upload.table = [] ∧ (abandonBlocks s).upload.state = .idle := by
  obtain ⟨-, hcounts⟩ := h.blocks.counts
  have hloose : ({ s with upload := { s.upload with table := [], state := .idle, cursor := some 0 } } : State).Live
      (s.upload.table.flatMap (fun o => o.slots) ++ []) := by
    rw [List.append_nil]
    exact h.setUpload (h.blocks.loosen (kept := []) (List.append_nil _ ▸ List.Perm.refl _) rfl (fun _ => rfl)
      (fun hi => absurd rfl hi) ⟨fun n hn => by obtain rfl := Option.some.inj hn; decide, hcounts⟩)
  have hreleased := hloose.released
  rw [abandonBlocks_eq h.roster.rising]
  exact ⟨hreleased, rfl, rfl⟩

theorem State.Live.discardDockLoad (h : s.Live []) (htable : s.upload.table = []) : (discardDockLoad s).Live [] := by
  unfold Machine.discardDockLoad
  split
  · exact h.discardRoute htable
  · exact h

theorem discardDockLoad_rest (s : State) :
    (discardDockLoad s).upload.table = s.upload.table ∧ (discardDockLoad s).upload.state = s.upload.state
    ∧ (discardDockLoad s).link = s.link := by
  unfold discardDockLoad
  split
  · refine ⟨?_, ?_, rfl⟩
    · show s.upload.passOver.table = _
      unfold Upload.passOver
      split <;> rfl
    · show s.upload.passOver.state = _
      unfold Upload.passOver
      split <;> rfl
  · exact ⟨rfl, rfl, rfl⟩

/-- A loss of the lock leaves the Upload Engine at rest, and the link to its own part. -/
theorem State.Live.lockLoss (h : s.Live []) :
    (lockLoss s).Live [] ∧ (lockLoss s).upload.table = [] ∧ (lockLoss s).upload.state = .idle ∧ (lockLoss s).link = s.link := by
  obtain ⟨hlive, htable, hstate⟩ := h.abandonBlocks
  obtain ⟨htable', hstate', hlink⟩ := discardDockLoad_rest (Machine.abandonBlocks s)
  refine ⟨hlive.discardDockLoad htable, htable'.trans htable, hstate'.trans hstate, hlink.trans ?_⟩
  rw [abandonBlocks_eq h.roster.rising]

/-- The link of a part whose Upload Engine is at rest is changed. -/
theorem State.Live.setLink (h : s.Live []) (htable : s.upload.table = []) (hidle : s.upload.state = .idle) {l : Link}
    (htx : l.txQueue = []) (hlink : ({ s with link := l } : State).linkLaw) : ({ s with link := l } : State).Live [] :=
  { h with
    tx := txLaw_nil htx
    link := hlink
    blocks := h.blocks.relink (fun hn => absurd htable hn) (fun hn => absurd hidle hn) }

theorem State.Live.loseLock (h : s.Live []) (hd : s.link.state ≠ .detached) : (loseLock s).Live [] := by
  obtain ⟨hlive, htable, hidle, hlink⟩ := h.lockLoss
  rw [← hlink] at hd
  obtain ⟨-, -, -, -, -, -, herr, hpat, -⟩ := hlive.link
  refine State.Live.raise (State.Live.setLink hlive htable hidle rfl ?_) attDockChange
  exact linkLaw_up hlive.link hd (fun hx => by cases hx) (Nat.zero_le _) (Nat.le_refl 2)
    (fun hx => by rcases hx with hx | hx <;> cases hx) (fun hx => by cases hx) herr hpat trivial

end Sys2Proof.Machine

/-! PROOFS. The Upload Engine keeps the laws of a running part: passes, assembly, acknowledgements and the end of a pass. -/

namespace Sys2Proof.Machine

variable {s : State} {loose rest slots : List Nat}

/-! ## Passes (R168, R169, R179) -/

theorem State.Live.setCounts {u : Upload} (h : s.Live loose) (htable : u.table = s.upload.table) (hstate : u.state = s.upload.state)
    (hcounts : u.counts) : ({ s with upload := u } : State).Live loose :=
  { h with blocks := h.blocks.recount htable hstate hcounts }

theorem State.Live.uploadRequest (h : s.Live loose) (hl : s.link.state = .locked) : (uploadRequest s).Live loose := by
  obtain ⟨hcursor, hsent, hretired, hreturned, htimeouts, hstrays, hignored⟩ := h.blocks.counts
  unfold Machine.uploadRequest
  split
  · rename_i hi
    have htable := h.blocks.idle hi.1
    exact { h with
      blocks := { h.blocks with
        idle := fun _ => htable
        busy := fun _ => .inl hl
        counts := ⟨fun n hn => by obtain rfl := Option.some.inj hn; decide, Nat.zero_le _, Nat.zero_le _, Nat.zero_le _, htimeouts,
          hstrays, hignored⟩ } }
  · exact h.setCounts rfl rfl ⟨hcursor, hsent, hretired, hreturned, htimeouts, hstrays, satInc_le _ _⟩

theorem State.Live.uploadStop (h : s.Live loose) (hl : s.link.state = .locked) : (uploadStop s).Live loose := by
  obtain ⟨hcursor, hsent, hretired, hreturned, htimeouts, hstrays, hignored⟩ := h.blocks.counts
  unfold Machine.uploadStop
  split
  · exact { h with
      blocks := { h.blocks with
        idle := fun hi => (by cases hi)
        busy := fun _ => .inl hl
        counts := h.blocks.counts } }
  · exact h.setCounts rfl rfl ⟨hcursor, hsent, hretired, hreturned, htimeouts, hstrays, satInc_le _ _⟩

theorem uploadEndFrame_sendable (s : State) : (uploadEndFrame s).sendable :=
  ⟨by simp [uploadEndFrame, sentTypes], by simp [uploadEndFrame]⟩

theorem passEnds_iff : s.passEnds = true
    ↔ ((s.upload.state = .passing ∧ s.upload.cursor = none) ∨ s.upload.state = .draining) ∧ s.upload.table = []
      ∧ s.link.state = .locked := by
  simp [State.passEnds, and_assoc]

theorem execEndOfPass_lawful (h : s.Laws) : Lawful (execEndOfPass s) := by
  unfold execEndOfPass
  split
  · rename_i he
    obtain ⟨-, htable, hlocked⟩ := passEnds_iff.1 he
    have hlive := h.live_of_locked hlocked
    have hidle : ({ s with upload.state := .idle } : State).Live [] :=
      hlive.setUpload { hlive.blocks with
        idle := fun _ => htable
        busy := fun hi => absurd rfl hi }
    have hframe := offer_frame (uploadEndFrame s) s
    have hoffered := hidle.offer (f := uploadEndFrame s) (by show s.link.state ≠ _; rw [hlocked]; decide) (uploadEndFrame_sendable s)
    have heq : ({ offer (uploadEndFrame s) s with upload.state := .idle } : State)
        = offer (uploadEndFrame s) { s with upload.state := .idle } := by
      unfold offer
      exact apply_ite (fun t : State => ({ t with upload.state := .idle } : State)) _ _ _
    rw [heq]
    exact (hoffered.raise attUploadDone).lawful
  · exact ⟨s, rfl, h⟩

/-! ## Assembly (R170 to R172) -/

/-- The slots of the records taken. -/
abbrev slotsOf (taken : List (Nat × Record)) : List Nat := taken.map (fun e => e.1)

/-- The record of a slot when the slots taken are carried by a block. -/
def carriedIn (block : BitVec 8) (taken : List Nat) (n : Nat) (r : Record) : Record :=
  if n ∈ taken then { r with upload := .carried block false } else r

/-- A record that is carried keeps everything but its upload state. -/
theorem carriedIn_keeps (block : BitVec 8) (taken : List Nat) (n : Nat) (r : Record) :
    (carriedIn block taken n r).meterId = r.meterId ∧ (carriedIn block taken n r).segment = r.segment
    ∧ (carriedIn block taken n r).state = r.state ∧ (carriedIn block taken n r).eval = r.eval := by
  unfold carriedIn
  split <;> exact ⟨rfl, rfl, rfl, rfl⟩

/-- The part with the records taken carried by a block. -/
def State.carrying (s : State) (block : BitVec 8) (taken : List Nat) : State :=
  { s with roster.slots := s.roster.slots.map (fun e => (e.1, carriedIn block taken e.1 e.2)) }

/-- The records taken become CARRIED in their places. -/
theorem carry_eq {block : BitVec 8} {taken : List (Nat × Record)} (h : tableRising s.roster.slots = true)
    (hsub : ∀ e ∈ taken, e ∈ s.roster.slots) (hnodup : (slotsOf taken).Nodup) :
    carry block taken s = s.carrying block (slotsOf taken) := by
  induction taken generalizing s with
  | nil =>
    unfold carry State.carrying carriedIn
    simp
  | cons e t ih =>
    have hget : s.recordAt e.1 = some e.2 := tableGet_of_mem h (hsub e List.mem_cons_self)
    obtain ⟨hne, hnodup⟩ := List.nodup_cons.1 hnodup
    have hstep : carry block (e :: t) s = carry block t (setRecord e.1 { e.2 with upload := .carried block false } s) := rfl
    rw [hstep, setRecord_listed _ h hget, ih (tableRising_map _ h) (fun f hf => ?_) hnodup]
    · unfold State.carrying
      simp only [List.map_map]
      congr 2
      refine List.map_congr_left fun f hf => ?_
      simp only [Function.comp, carriedIn, List.map_cons, List.mem_cons]
      by_cases hfe : f.1 = e.1
      · have hf2 : f.2 = e.2 := Option.some.inj ((tableGet_of_mem h hf).symm.trans (hfe ▸ hget))
        have hnot : f.1 ∉ t.map (fun e => e.1) := hfe ▸ hne
        rw [if_pos hfe, if_neg hnot, if_pos (.inl hfe), hf2]
      · simp only [hfe, if_false, false_or]
    · have hfe : f.1 ≠ e.1 := fun hx => hne (List.mem_map.2 ⟨f, hf, hx⟩)
      exact List.mem_map.2 ⟨f, hsub f (List.mem_cons_of_mem _ hf), by rw [if_neg hfe]⟩

/-- What an eligible record is (R170). -/
theorem eligible_iff {route : RouteState} {r : Record} :
    eligible route r = true
      ↔ r.upload = .idle
        ∧ ((route = .active ∧ (r.state = .read ∨ r.state = .reviewed) ∧ r.eval = .done)
          ∨ (route = .closed
              ∧ (r.state = .notRead ∨ ((r.state = .read ∨ r.state = .reviewed ∨ r.state = .flagged) ∧ r.eval = .done)))) := by
  have hidle : r.upload.isCarried = false ↔ r.upload = .idle := by cases r.upload <;> simp [UploadMark.isCarried]
  unfold eligible
  rw [Bool.and_eq_true, Bool.not_eq_true', hidle]
  refine and_congr_right fun _ => ?_
  cases route <;> simp [or_comm, or_left_comm, and_comm]

/-- The records an assembly takes, by what makes them so. -/
theorem mem_scan {cursor : Nat} {e : Nat × Record} (h : e ∈ s.scan cursor) :
    e ∈ s.roster.slots ∧ cursor ≤ e.1 ∧ eligible s.route.state e.2 = true := by
  obtain ⟨hmem, hp⟩ := List.mem_filter.1 (List.mem_of_mem_take h)
  rw [Bool.and_eq_true, decide_eq_true_eq] at hp
  exact ⟨hmem, hp⟩

theorem scan_pairwise (h : tableRising s.roster.slots = true) (cursor : Nat) :
    ((s.scan cursor).map (fun e => e.1)).Pairwise (· < ·) := by
  rw [tableRising_iff] at h
  rw [List.pairwise_map]
  exact (h.filter _).sublist (List.take_sublist _ _)

theorem ascending_of_pairwise {l : List Nat} (h : l.Pairwise (· < ·)) : ascending l = true := by
  induction l with
  | nil => rfl
  | cons a t ih =>
    obtain ⟨ha, ht⟩ := List.pairwise_cons.1 h
    cases t with
    | nil => rfl
    | cons b t => rw [ascending, ih ht, decide_eq_true (ha b List.mem_cons_self)]; rfl

theorem image_length (r : Record) : r.image.length = 28 := by
  simp [Record.image]

theorem uploadBlockFrame_sendable (block : BitVec 8) {taken : List (Nat × Record)} (h : taken.length ≤ 16) (s : State) :
    (uploadBlockFrame block taken s).sendable := by
  refine ⟨by simp [uploadBlockFrame, sentTypes], ?_⟩
  have hflat : (taken.flatMap (fun e => e.2.image)).length = 28 * taken.length := by
    rw [List.length_flatMap]
    simp [image_length, Nat.mul_comm]
  have hlen : (uploadBlockFrame block taken s).payload.length = 6 + 28 * taken.length := by
    simp only [uploadBlockFrame, List.length_append, beBytes_length, hflat, List.length_cons, List.length_nil]
  rw [hlen]
  omega

/-- The cursor that a scan leaves names a slot. -/
theorem cursorAfter_lt (taken : List (Nat × Record)) : ∀ n ∈ cursorAfter taken, n < 8192 := by
  intro n hn
  unfold cursorAfter at hn
  split at hn
  · split at hn
    · cases hn
    · split at hn
      · rename_i hlt
        obtain rfl := Option.some.inj hn
        exact hlt
      · cases hn
  · cases hn

/-- A block is made of records that none carries, and joins the table. -/
theorem BlocksSound.carry {u u' : Upload} {get get' : Nat → Option Record} {o : Outstanding} (h : BlocksSound [] u get .locked)
    (hfree : ∀ n ∈ o.slots, ∃ r, get n = some r ∧ r.upload = .idle)
    (hget : ∀ n, get' n = (get n).map (carriedIn o.block o.slots n))
    (hnonempty : o.slots ≠ []) (hlen : o.slots.length ≤ 16) (hrising : o.slots.Pairwise (· < ·)) (ht : 1 ≤ o.tenths)
    (ht' : o.tenths ≤ 127) (hroom : u.table.length < 4) (htable : u'.table = u.table ++ [o]) (hstate : u'.state = .passing)
    (hcounts : u'.counts) : BlocksSound [] u' get' .locked := by
  have hnot {n : Nat} (hn : n ∈ o.slots) : ∀ q ∈ u.table, n ∉ q.slots := by
    obtain ⟨r, hr, hi⟩ := hfree n hn
    exact (h.not_listed fun r' hr' => by obtain rfl := Option.some.inj (hr.symm.trans hr'); rw [hi]; rfl).2
  have hnodup : (u.table.flatMap (fun o => o.slots)).Nodup := h.nodup
  refine ⟨by rw [htable]; simpa using hroom, ?_, fun q hq => ?_, fun n r hr hc => .inr ?_, List.forall_mem_nil _,
    fun hi => (by cases hstate.symm.trans hi), fun _ => rfl, fun _ => .inl rfl, hcounts⟩
  · rw [htable, List.flatMap_append, List.nil_append]
    refine List.nodup_append.2 ⟨hnodup, ?_, fun a ha b hb hab => ?_⟩
    · rw [List.flatMap_cons, List.flatMap_nil, List.append_nil]
      exact hrising.imp Nat.ne_of_lt
    · obtain ⟨q, hq, haq⟩ := List.mem_flatMap.1 ha
      exact hnot (by simpa using hb) q hq (hab ▸ haq)
  · rw [htable] at hq
    rcases List.mem_append.1 hq with hq | hq
    · exact { h.each q hq with
        carries := fun n hn => by
          have hout : n ∉ o.slots := fun hx => hnot hx q hq hn
          obtain ⟨r, hr, hc⟩ := (h.each q hq).carries n hn
          exact ⟨r, by rw [hget, hr]; simp [carriedIn, hout], hc⟩ }
    · obtain rfl := List.mem_singleton.1 hq
      refine ⟨hnonempty, hlen, ascending_of_pairwise hrising, ht, ht', fun n hn => ?_⟩
      obtain ⟨r, hr, -⟩ := hfree n hn
      exact ⟨{ r with upload := .carried q.block false }, by rw [hget, hr]; simp [carriedIn, hn], rfl, rfl⟩
  · rw [htable]
    rw [hget, Option.map_eq_some_iff] at hr
    obtain ⟨q, hq, rfl⟩ := hr
    by_cases hn : n ∈ o.slots
    · exact ⟨o, by simp, hn⟩
    · rw [carriedIn, if_neg hn] at hc
      obtain ⟨p, hp, hnp⟩ := (h.carriers n q hq hc).resolve_left List.not_mem_nil
      exact ⟨p, by simp [hp], hnp⟩

/-- A record that is not EXPECTED stays sound when it becomes CARRIED. -/
theorem RecordSound.carry {route : RouteState} {live : Settings} {ev : EvalUnit} {chain : List Nat} {n : Nat} {r : Record}
    (h : RecordSound route live ev chain n r) (hx : r.state ≠ .expected) (block : BitVec 8) :
    RecordSound route live ev chain n { r with upload := .carried block false } := by
  obtain ⟨hread, hsig, hnone, hres, hdone, hflag, hrev, -⟩ := h.holds
  exact { h with
    inRange := h.inRange
    holds := ⟨hread, hsig, hnone, hres, hdone, hflag, hrev, fun _ => hx⟩ }

theorem eligible_not_expected {route : RouteState} {r : Record} (h : eligible route r = true) : r.state ≠ .expected := by
  obtain ⟨-, ⟨-, hs, -⟩ | ⟨-, hs⟩⟩ := eligible_iff.1 h
  · rcases hs with hs | hs <;> rw [hs] <;> decide
  · rcases hs with hs | ⟨hs | hs | hs, -⟩ <;> rw [hs] <;> decide

/-- The state that a block made of the records taken leaves, before its frame is offered. -/
def State.blockMade (s : State) (taken : List (Nat × Record)) : State :=
  { s.carrying s.upload.nextBlock (slotsOf taken) with
    upload := { s.upload with
      nextBlock := s.upload.nextBlock + 1#8
      table := s.upload.table ++
        [{ block := s.upload.nextBlock, slots := slotsOf taken, tenths := s.store.live.timeout }]
      sent := satInc Config.countTop s.upload.sent } }

theorem makeBlock_eq {taken : List (Nat × Record)} (h : tableRising s.roster.slots = true)
    (hsub : ∀ e ∈ taken, e ∈ s.roster.slots) (hnodup : (slotsOf taken).Nodup) :
    makeBlock taken s = offer (uploadBlockFrame s.upload.nextBlock taken s) (s.blockMade taken) := by
  unfold makeBlock
  dsimp only
  rw [carry_eq h hsub hnodup]
  rfl

theorem State.Live.makeBlock (h : s.Live []) (hl : s.link.state = .locked) (hp : s.upload.state = .passing)
    (hroom : s.upload.table.length < 4) {taken : List (Nat × Record)} (hne : taken ≠ [])
    (hsub : ∀ e ∈ taken, e ∈ s.roster.slots ∧ eligible s.route.state e.2 = true) (hlen : taken.length ≤ 16)
    (hrising : (slotsOf taken).Pairwise (· < ·)) : (makeBlock taken s).Live [] := by
  obtain ⟨hcursor, -, hretired, hreturned, htimeouts, hstrays, hignored⟩ := h.blocks.counts
  obtain ⟨-, htimeout, htimeout', -⟩ := h.settings.1
  have hget : ∀ n, (s.carrying s.upload.nextBlock (slotsOf taken)).recordAt n
      = (s.recordAt n).map (carriedIn s.upload.nextBlock (slotsOf taken) n) :=
    fun n => tableGet_map (carriedIn s.upload.nextBlock (slotsOf taken)) s.roster.slots n
  have hkeeps := carriedIn_keeps s.upload.nextBlock (slotsOf taken)
  have htaken {n : Nat} (hn : n ∈ slotsOf taken) : ∃ r, s.recordAt n = some r ∧ eligible s.route.state r = true := by
    obtain ⟨e, he, rfl⟩ := List.mem_map.1 hn
    exact ⟨e.2, h.roster.get (hsub e he).1, (hsub e he).2⟩
  rw [makeBlock_eq h.roster.rising (fun e he => (hsub e he).1) (hrising.imp fun hx => Nat.ne_of_lt hx)]
  have hblocks := h.blocks
  rw [hl] at hblocks
  have hmade : (s.blockMade taken).Live [] :=
    { h with
      roster := h.roster.remap (f := carriedIn s.upload.nextBlock (slotsOf taken)) fun n r _ => (hkeeps n r).1
      records := h.records.remap (f := carriedIn s.upload.nextBlock (slotsOf taken)) hget
        (fun n r hr hsound => by
          unfold carriedIn
          split
          · rename_i hn
            obtain ⟨q, hq, he⟩ := htaken hn
            obtain rfl := Option.some.inj (hr.symm.trans hq)
            exact hsound.carry (eligible_not_expected he) _
          · exact hsound)
        fun n r _ => (hkeeps n r).2.2.2
      segments := h.segments.recount (countIn_remap (f := carriedIn s.upload.nextBlock (slotsOf taken)) fun e _ =>
        ⟨(hkeeps e.1 e.2).2.1, (hkeeps e.1 e.2).2.2.1⟩)
      blocks := by
        show BlocksSound [] _ _ s.link.state
        rw [hl]
        exact hblocks.carry
          (o := { block := s.upload.nextBlock, slots := slotsOf taken, tenths := s.store.live.timeout })
          (fun n hn => by
            obtain ⟨r, hr, he⟩ := htaken hn
            exact ⟨r, hr, (eligible_iff.1 he).1⟩)
          hget (by simpa using hne) (by simpa using hlen) hrising htimeout htimeout' hroom rfl hp
          ⟨hcursor, satInc_le _ _, hretired, hreturned, htimeouts, hstrays, hignored⟩ }
  exact hmade.offer (by show s.link.state ≠ _; rw [hl]; decide) (uploadBlockFrame_sendable _ hlen s)

theorem execAssembly_lawful (h : s.Laws) : Lawful (execAssembly s) := by
  unfold execAssembly
  split
  · exact ⟨s, rfl, h⟩
  · rename_i cursor hc
    split
    · rename_i hcond
      obtain ⟨hp, hroom, hl⟩ := hcond
      have hlive := h.live_of_locked hl
      have hmoved : ({ s with upload.cursor := cursorAfter (s.scan cursor) } : State).Live [] :=
        hlive.setCounts rfl rfl ⟨cursorAfter_lt _, hlive.blocks.counts.2⟩
      dsimp only
      split
      · exact hmoved.lawful
      · rename_i hne
        refine (hmoved.makeBlock hl hp hroom hne (fun e he => ?_) (List.length_take_le _ _) (scan_pairwise hlive.roster.rising _)).lawful
        obtain ⟨hmem, -, he⟩ := mem_scan he
        exact ⟨hmem, he⟩
    · exact ⟨s, rfl, h⟩

/-! ## BLOCK ACK (R175 to R177) -/

/-- The removal of an entry and one record of an accepted block do not meet. -/
theorem segLose_removeEntry (block : BitVec 8) (n : Nat) (r : Record) (s : State) :
    segLose n r (removeEntry block s) = removeEntry block (segLose n r s) := by
  simp only [segLose, completeIfRead, apply_ite (removeEntry block)]
  rfl

theorem returnToEmpty_removeEntry (block : BitVec 8) (s : State) :
    returnToEmpty (removeEntry block s) = removeEntry block (returnToEmpty s) := by
  unfold returnToEmpty removeEntry Upload.passOver
  by_cases hp : s.upload.state = .passing
  · simp only [hp, if_true]
  · simp only [hp, if_false]

theorem retireSlot_removeEntry (block : BitVec 8) {slot : Nat} {r : Record} (h : s.recordAt slot = some r) :
    retireSlot slot (removeEntry block s) = removeEntry block (retireSlot slot s) := by
  have hseg : segLose r.segment r (dropSlot slot (removeEntry block s))
      = removeEntry block (segLose r.segment r (dropSlot slot s)) := segLose_removeEntry block _ r (dropSlot slot s)
  rw [retireSlot_eq (s := removeEntry block s) h, retireSlot_eq h, hseg, returnToEmpty_removeEntry,
    apply_ite (removeEntry block)]
  rfl

theorem acceptSlot_removeEntry (block : BitVec 8) (s : State) (slot : Nat) :
    acceptSlot (removeEntry block s) slot = removeEntry block (acceptSlot s slot) := by
  unfold acceptSlot
  rw [show (removeEntry block s).recordAt slot = s.recordAt slot from rfl]
  cases hr : s.recordAt slot with
  | none => rfl
  | some r =>
    dsimp only
    split
    · rfl
    · exact retireSlot_removeEntry block (s := { s with upload.retired := satInc Config.countTop s.upload.retired }) hr

theorem acceptSlots_removeEntry (block : BitVec 8) (slots : List Nat) (s : State) :
    slots.foldl acceptSlot (removeEntry block s) = removeEntry block (slots.foldl acceptSlot s) := by
  induction slots generalizing s with
  | nil => rfl
  | cons n t ih => rw [List.foldl_cons, List.foldl_cons, acceptSlot_removeEntry, ih]

/-- One record of an accepted block, which has left the table, is dealt with. -/
theorem State.Live.acceptSlot {slot : Nat} (h : s.Live (slot :: rest)) : (acceptSlot s slot).Live rest := by
  obtain ⟨hcursor, hsent, hretired, hreturned, htimeouts, hstrays, hignored⟩ := h.blocks.counts
  obtain ⟨r, hr, -⟩ := h.blocks.loose slot List.mem_cons_self
  have hnodup := h.blocks.nodup
  rw [List.cons_append, List.nodup_cons] at hnodup
  obtain ⟨hout, -⟩ := hnodup
  have htable : ∀ o ∈ s.upload.table, slot ∉ o.slots := fun o ho hs =>
    hout (List.mem_append_right _ (List.mem_flatMap.2 ⟨o, ho, hs⟩))
  have hrest : slot ∉ rest := fun hs => hout (List.mem_append_left _ hs)
  have hmem : ∀ k, k ∈ rest ↔ k ∈ slot :: rest ∧ k ≠ slot := fun k => by
    rw [List.mem_cons]
    constructor
    · exact fun hk => ⟨.inr hk, fun he => hrest (he ▸ hk)⟩
    · exact fun ⟨hk, hne⟩ => hk.resolve_left hne
  unfold Machine.acceptSlot
  rw [hr]
  dsimp only
  split
  · have hlive := h.setCounts (u := { s.upload with returned := satInc Config.countTop s.upload.returned }) rfl rfl
      ⟨hcursor, hsent, hretired, satInc_le _ _, htimeouts, hstrays, hignored⟩
    have hget := recordAt_setRecord slot r.release s
    have hr' : tableGet s.roster.slots slot = some r := hr
    exact { hlive with
      roster := hlive.roster.write hr' rfl
      records := hlive.records.write_same (get' := (setRecord slot r.release s).recordAt) hr hget rfl RecordSound.release
      segments := hlive.segments.recount (countIn_write hlive.roster.rising hr' rfl rfl)
      blocks := hlive.blocks.unload (get' := (setRecord slot r.release s).recordAt) (n := slot)
        (fun k hk => (hget k).trans (if_neg hk))
        (fun q hq => by
          obtain rfl := Option.some.inj (((hget slot).trans (if_pos rfl)).symm.trans hq)
          rfl)
        htable (List.sublist_cons_self _ _) hmem }
  · have hlive := h.setCounts (u := { s.upload with retired := satInc Config.countTop s.upload.retired }) rfl rfl
      ⟨hcursor, hsent, satInc_le _ _, hreturned, htimeouts, hstrays, hignored⟩
    exact hlive.retireSlot (r := r) hr htable (List.sublist_cons_self _ _) hmem

theorem State.Live.acceptSlots (h : s.Live slots) : (slots.foldl Machine.acceptSlot s).Live [] := by
  induction slots generalizing s with
  | nil => exact h
  | cons n t ih => exact ih h.acceptSlot

theorem State.Live.blockAck (h : s.Live []) (payload : List Byte) : (blockAck payload s).Live [] := by
  obtain ⟨hcursor, hsent, hretired, hreturned, htimeouts, hstrays, hignored⟩ := h.blocks.counts
  unfold Machine.blockAck
  dsimp only
  split
  · exact h.setCounts rfl rfl ⟨hcursor, hsent, hretired, hreturned, htimeouts, satInc_le _ _, hignored⟩
  · rename_i o ho
    split
    · rw [← acceptSlots_removeEntry]
      have hloose := h.loosenOne ho (u := { s.upload with table := s.upload.table.eraseP _ }) rfl rfl h.blocks.counts
      rw [List.append_nil] at hloose
      exact hloose.acceptSlots
    · rw [releaseSlots_released h.roster.rising]
      exact h.freeBlock ho (u := { s.upload with
          table := s.upload.table.eraseP _
          returned := o.slots.foldl (fun n _ => satInc Config.countTop n) s.upload.returned }) rfl rfl
        ⟨hcursor, hsent, hretired, by rw [satInc_foldl o.slots (top := Config.countTop) hreturned]; exact Nat.min_le_left _ _,
          htimeouts, hstrays, hignored⟩

end Sys2Proof.Machine

/-! PROOFS. The arrivals from the depot, the connector, the transmitter and the timebase keep every law. -/

namespace Sys2Proof.Machine

variable {s : State} {loose : List Nat}

/-! ## Arrivals (R154, R158) -/

/-- An arrival is lawful that a DETACHED link ignores and that keeps the laws of a running part. -/
theorem State.Laws.arrival (h : s.Laws) {f : State → State} (hd : s.link.state = .detached → f s = s)
    (hl : s.Live [] → (f s).Live []) : Lawful (.next (f s)) := by
  by_cases hs : s.link.state = .detached
  · rw [hd hs]
    exact ⟨s, rfl, h⟩
  · exact (hl (h.live (h.listens_of_link hs))).lawful

theorem messageArrival_detached (hd : s.link.state = .detached) (act : State → State) : messageArrival act s = s := by
  unfold messageArrival
  rw [hd]

theorem unusableArrival_detached (hd : s.link.state = .detached) (typ : Byte) : unusableArrival typ s = s := by
  unfold unusableArrival
  rw [hd]

theorem syncArrival_detached (hd : s.link.state = .detached) : syncArrival s = s := by
  unfold syncArrival
  rw [hd]

theorem checkPatternArrival_detached (hd : s.link.state = .detached) (payload : List Byte) : checkPatternArrival payload s = s := by
  unfold checkPatternArrival
  rw [hd]

theorem checkEndArrival_detached (hd : s.link.state = .detached) : checkEndArrival s = s := by
  unfold checkEndArrival
  rw [hd]

/-- A message that its owner takes in LOCKED. -/
theorem State.Laws.message (h : s.Laws) {act : State → State}
    (hact : ∀ t : State, t.Live [] → t.link.state = .locked → (act t).Live []) : Lawful (.next (messageArrival act s)) :=
  h.arrival (fun hd => messageArrival_detached hd act) fun hl => hl.messageArrival hact

theorem State.Laws.unusable (h : s.Laws) (typ : Byte) : Lawful (.next (unusableArrival typ s)) :=
  h.arrival (f := unusableArrival typ) (fun hd => unusableArrival_detached hd typ) fun hl => hl.unusableArrival typ

/-- A message of a payload length, or an unusable frame. -/
theorem State.Laws.sized (h : s.Laws) {act : State → State} {typ : Byte} {p : Prop} [Decidable p]
    (hact : ∀ t : State, t.Live [] → t.link.state = .locked → (act t).Live []) :
    Lawful (.next (if p then messageArrival act s else unusableArrival typ s)) := by
  split
  · exact h.message hact
  · exact h.unusable typ

theorem execCheckPattern_lawful (payload : List Byte) (h : s.Laws) : Lawful (execCheckPattern payload s) := by
  unfold execCheckPattern
  split
  · exact h.arrival (f := checkPatternArrival payload) (fun hd => checkPatternArrival_detached hd payload) fun hl =>
      hl.checkPatternArrival payload
  · exact h.unusable _

/-- A valid frame is a SYNC, a message that its owner takes in LOCKED, a message of a check, or an unusable frame (R154, R158). -/
theorem validArrival_cases {motive : State → Prop} (typ : Byte) (payload : List Byte) (hsync : motive (syncArrival s))
    (hmessage : ∀ act : State → State, (∀ t : State, t.Live [] → t.link.state = .locked → (act t).Live []) →
      motive (messageArrival act s))
    (hpattern : motive (checkPatternArrival payload s)) (hend : motive (checkEndArrival s))
    (hunusable : motive (unusableArrival typ s)) : motive (validArrival typ payload s) := by
  unfold validArrival
  refine iteInduction (fun _ => ?_) fun _ => hunusable
  refine iteInduction (fun _ => hsync) fun _ => ?_
  refine iteInduction (fun _ => hmessage _ fun t ht _ => ht.dockRouteOpen payload) fun _ => ?_
  refine iteInduction (fun _ => hmessage _ fun t ht _ => ht.dockRouteRecord payload) fun _ => ?_
  refine iteInduction (fun _ => hmessage _ fun t ht _ => ht.dockRouteSeal) fun _ => ?_
  refine iteInduction (fun _ => hmessage _ fun t ht _ => ht.dockRouteAbort) fun _ => ?_
  refine iteInduction (fun _ => hmessage _ fun t ht _ => ht.dockCloseRoute) fun _ => ?_
  refine iteInduction (fun _ => hmessage _ fun t ht hl => ht.uploadRequest hl) fun _ => ?_
  refine iteInduction (fun _ => hmessage _ fun t ht hl => ht.uploadStop hl) fun _ => ?_
  refine iteInduction (fun _ => hmessage _ fun t ht _ => ht.blockAck payload) fun _ => ?_
  refine iteInduction (fun _ => hmessage _ fun t ht hl => ht.checkStart hl) fun _ => ?_
  exact iteInduction (fun _ => hpattern) fun _ => hend

theorem State.Live.validArrival (h : s.Live []) (typ : Byte) (payload : List Byte) : (validArrival typ payload s).Live [] :=
  validArrival_cases (motive := fun t => t.Live []) typ payload h.syncArrival (fun _ hact => h.messageArrival hact)
    (h.checkPatternArrival payload) h.checkEndArrival (h.unusableArrival typ)

theorem validArrival_detached (hd : s.link.state = .detached) (typ : Byte) (payload : List Byte) :
    validArrival typ payload s = s :=
  validArrival_cases (motive := fun t => t = s) typ payload (syncArrival_detached hd) (fun act _ => messageArrival_detached hd act)
    (checkPatternArrival_detached hd payload) (checkEndArrival_detached hd) (unusableArrival_detached hd typ)

theorem execUnusableFrame_lawful (typ : Byte) (payload : List Byte) (h : s.Laws) : Lawful (execUnusableFrame typ payload s) :=
  h.arrival (f := Machine.validArrival typ payload) (fun hd => validArrival_detached hd typ payload) fun hl =>
    hl.validArrival typ payload

/-! ## The bytes on the line (R153) -/

theorem receiveByte_unfinished {rx : Receiver} (b : RxByte) : (receiveByte rx b).1.unfinished := by
  unfold receiveByte
  split
  · split
    · exact .inl (by simp)
    · trivial
  · dsimp only
    split_ifs with h1 h2 h3
    · exact .inl h1
    · trivial
    · exact .inr ⟨Nat.le_of_not_lt h2, h3⟩
    · trivial

theorem receiveGap_hunt (rx : Receiver) : (receiveGap rx).1 = .hunt := by
  unfold receiveGap
  split <;> rfl

theorem State.Live.arrive (h : s.Live []) (a : Option Arrival) : (arrive a s).Live [] := by
  unfold Machine.arrive
  split
  · exact h
  · exact h.erroredArrival
  · exact h.validArrival _ _

theorem State.Live.setReceiver (h : s.Live loose) (hd : s.link.state ≠ .detached) {rx : Receiver} (hrx : rx.unfinished) :
    ({ s with link.receiver := rx } : State).Live loose := by
  obtain ⟨-, -, hrun, hlive, hlocked, hheld, herr, hpat, -⟩ := h.link
  exact { h with link := linkLaw_up h.link hd hd hrun hlive hlocked hheld herr hpat hrx }

theorem State.Live.lineByte (h : s.Live []) (b : RxByte) : (lineByte s b).Live [] := by
  unfold Machine.lineByte
  split
  · exact h
  · rename_i hd
    exact (h.setReceiver hd (receiveByte_unfinished b)).arrive _

theorem State.Live.lineBytes (h : s.Live []) (line : List RxByte) : (line.foldl Machine.lineByte s).Live [] := by
  induction line generalizing s with
  | nil => exact h
  | cons b t ih => exact ih (h.lineByte b)

theorem State.Live.lineGap (h : s.Live []) : (lineGap s).Live [] := by
  unfold Machine.lineGap
  split
  · exact h
  · rename_i hd
    exact (h.setReceiver hd (by rw [receiveGap_hunt]; trivial)).arrive _

theorem lineByte_detached (hd : s.link.state = .detached) (b : RxByte) : lineByte s b = s := if_pos hd

theorem lineBytes_detached (hd : s.link.state = .detached) (line : List RxByte) : line.foldl lineByte s = s := by
  induction line with
  | nil => rfl
  | cons b t ih => rw [List.foldl_cons, lineByte_detached hd, ih]

theorem lineGap_detached (hd : s.link.state = .detached) : lineGap s = s := if_pos hd

theorem execErroredFrame_lawful (line : List RxByte) (h : s.Laws) : Lawful (execErroredFrame line s) :=
  h.arrival (f := fun s => Machine.lineGap (line.foldl Machine.lineByte s))
    (fun hd => by rw [lineBytes_detached hd, lineGap_detached hd]) fun hl => (hl.lineBytes line).lineGap

/-! ## The connector and the transmitter (R152, R159, R160) -/

/-- The power-on contents with one of the parts changed that they leave as they stand. -/
theorem powerLaw_keep {f : State → State} (h : s.powerLaw) (hp : (f s).power = s.power)
    (hf : f (powerOnContents s.power s) = powerOnContents (f s).power (f s)) : (f s).powerLaw := fun hr => by
  rw [← hf, h (hp ▸ hr)]

/-- A link that is DETACHED stands as a fall of DOCK_PRESENT leaves it. -/
theorem detach_detached (h : s.linkLaw) (hd : s.link.state = .detached) : s.link.detach = s.link := by
  obtain ⟨htx, hsending, hrx, hheld, herr, hpat⟩ := h.2.1 hd
  generalize s.link = l at hd htx hsending hrx hheld herr hpat
  cases l
  simp_all [Link.detach]

/-- DOCK_PRESENT goes low where the link is DETACHED. -/
theorem State.Laws.unmate (h : s.Laws) (hd : s.link.state = .detached) : ({ s with dockPresent := false } : State).Laws :=
  { h with
    link := ⟨⟨fun _ hx => (by cases hx.2), fun _ => hd⟩, h.link.2⟩
    power := powerLaw_keep (f := fun s => { s with dockPresent := false }) h.power rfl rfl }

/-- The link goes down with the Upload Engine at rest. -/
theorem State.Live.detach (h : s.Live []) (htable : s.upload.table = []) (hidle : s.upload.state = .idle) :
    ({ s with dockPresent := false, link := s.link.detach } : State).Live [] := by
  obtain ⟨-, -, hrun, hlive, -⟩ := h.link
  exact { h with
    tx := txLaw_nil rfl
    link := ⟨⟨fun _ hx => (by cases hx.2), fun _ => rfl⟩, fun _ => ⟨rfl, rfl, rfl, rfl, rfl, rfl⟩, hrun, hlive,
      fun hx => (by rcases hx with hx | hx <;> cases hx), fun hx => (by cases hx), Nat.zero_le _, Nat.zero_le _, trivial⟩
    blocks := h.blocks.relink (fun hn => absurd htable hn) fun hn => absurd hidle hn }

/-- A loss of the lock and the level of DOCK_PRESENT do not meet. -/
theorem lockLoss_dockPresent (h : tableRising s.roster.slots = true) (b : Bool) :
    lockLoss { s with dockPresent := b } = { lockLoss s with dockPresent := b } := by
  unfold lockLoss
  rw [abandonBlocks_eq (s := { s with dockPresent := b }) h, abandonBlocks_eq h]
  unfold discardDockLoad
  dsimp only
  split <;> rfl

/-- DOCK_PRESENT_FALL from a link that has the lock (R152). -/
theorem execDockPresentFall_locked (h : tableRising s.roster.slots = true)
    (hl : s.link.state = .locked ∨ s.link.state = .checking) :
    execDockPresentFall s
      = .next (raise attDockChange { lockLoss s with dockPresent := false, link := (lockLoss s).link.detach }) := by
  unfold execDockPresentFall
  dsimp only
  rw [lockLoss_dockPresent h]
  rcases hl with hl | hl <;> rw [hl]

/-- DOCK_PRESENT_FALL from a link that does not have it. -/
theorem execDockPresentFall_unlocked (hl : s.link.state = .detached ∨ s.link.state = .acquiring) :
    execDockPresentFall s = .next { s with dockPresent := false, link := s.link.detach } := by
  unfold execDockPresentFall
  dsimp only
  rcases hl with hl | hl <;> rw [hl]

theorem execDockPresentFall_lawful (h : s.Laws) : Lawful (execDockPresentFall s) := by
  by_cases hl : s.link.state = .locked ∨ s.link.state = .checking
  · have hlive := h.live (h.listens_of_link (by rcases hl with hl | hl <;> rw [hl] <;> decide))
    obtain ⟨hlost, htable, hidle, -⟩ := hlive.lockLoss
    rw [execDockPresentFall_locked hlive.roster.rising hl]
    exact ((hlost.detach htable hidle).raise attDockChange).lawful
  · have hl' : s.link.state = .detached ∨ s.link.state = .acquiring := by
      cases hs : s.link.state <;> simp [hs] at hl ⊢
    rw [execDockPresentFall_unlocked hl']
    rcases hl' with hd | ha
    · rw [detach_detached h.link hd]
      exact ⟨_, rfl, h.unmate hd⟩
    · have hlive := h.live (h.listens_of_link (by rw [ha]; decide))
      obtain ⟨hidle, htable⟩ := hlive.blocks.at_rest (by rw [ha]; decide) (by rw [ha]; decide)
      exact (hlive.detach htable hidle).lawful

end Sys2Proof.Machine

/-! PROOFS. The timebase, the resets and the power keep every law; so does every command, and with it every step. -/

namespace Sys2Proof.Machine

variable {s : State} {loose : List Nat}

/-! ## DOCK_PRESENT_RISE, FRAME_SEND and SYNC_INTERVAL_EXPIRY (R152, R159, R160) -/

theorem execDockPresentRise_lawful (h : s.Laws) : Lawful (execDockPresentRise s) := by
  have hs := h.sound
  unfold execDockPresentRise
  dsimp only
  split
  · rename_i hup
    obtain ⟨ha, hd⟩ := hup
    have ha : s.awake = true := ha
    have hd : s.link.state = .detached := hd
    obtain ⟨-, hcold, hrun, hlive, -, -, -, -, -⟩ := hs.link
    obtain ⟨htx, -, -, -, herr, hpat⟩ := hcold hd
    obtain ⟨hidle, htable⟩ := hs.blocks.at_rest (by rw [hd]; decide) (by rw [hd]; decide)
    refine State.Live.lawful (s := { s with dockPresent := true, link := s.link.acquire }) { hs with
      listens := (listens_iff s).2 ha
      tx := txLaw_nil htx
      link := ⟨⟨fun hx => (by cases hx), fun hx => absurd ⟨ha, rfl⟩ hx⟩, fun hx => (by cases hx), Nat.zero_le _, hlive,
        fun hx => (by rcases hx with hx | hx <;> cases hx), fun hx => (by cases hx), herr ▸ Nat.zero_le _, hpat ▸ Nat.zero_le _,
        trivial⟩
      blocks := hs.blocks.relink (fun hn => absurd htable hn) fun hn => absurd hidle hn }
  · rename_i hup
    refine ⟨_, rfl, { h with
      link := ⟨?_, h.link.2⟩
      power := powerLaw_keep (f := fun s => { s with dockPresent := true }) h.power rfl rfl }⟩
    by_cases hd : s.link.state = .detached
    · exact ⟨fun _ hx => hup ⟨hx.1, hd⟩, fun _ => hd⟩
    · have hon := not_not.1 (mt h.link.1.2 hd)
      exact ⟨fun hx => absurd hx hd, fun hx => absurd ⟨hon.1, rfl⟩ hx⟩

theorem txLaw_tail {f : Frame} {rest : List Frame} (h : s.txLaw) (hq : s.link.txQueue = f :: rest) {l : Link}
    (hl : l.txQueue = rest) : ({ s with link := l } : State).txLaw := by
  obtain ⟨hsend, hwait⟩ := txLaw_iff.1 h
  have hsub : rest.Sublist s.link.txQueue := hq ▸ List.sublist_cons_self f rest
  rw [txLaw_iff]
  refine ⟨fun g hg => hsend g (hsub.subset (hl ▸ hg)), fun typ ht => Nat.le_trans ?_ (hwait typ ht)⟩
  show (l.txQueue.filter _).length ≤ _
  rw [hl]
  exact (hsub.filter _).length_le

theorem execFrameSend_lawful (h : s.Laws) : Lawful (execFrameSend s) := by
  have hd : s.link.state = .detached → s.link.txQueue = [] ∧ s.link.sending = none := fun hd =>
    ⟨(h.link.2.1 hd).1, (h.link.2.1 hd).2.1⟩
  by_cases hs : s.link.state = .detached
  · obtain ⟨htx, hsending⟩ := hd hs
    have hsame : execFrameSend s = .next s := by
      unfold execFrameSend
      rw [htx]
      dsimp only
      rw [← hsending]
    rw [hsame]
    exact ⟨s, rfl, h⟩
  · have hlive := h.live (h.listens_of_link hs)
    obtain ⟨hup, -, hrest⟩ := hlive.link
    unfold execFrameSend
    split
    · exact State.Live.lawful { hlive with link := ⟨hup, fun hx => absurd hx hs, hrest⟩ }
    · rename_i f rest hq
      exact State.Live.lawful { hlive with
        tx := txLaw_tail hlive.tx hq rfl
        link := ⟨hup, fun hx => absurd hx hs, hrest⟩ }

theorem partSyncFrame_sendable (s : State) : (partSyncFrame s).sendable :=
  ⟨by simp [partSyncFrame, sentTypes], by simp [partSyncFrame]⟩

theorem execSyncIntervalExpiry_lawful (h : s.Laws) : Lawful (execSyncIntervalExpiry s) := by
  unfold execSyncIntervalExpiry
  split
  · exact ⟨s, rfl, h⟩
  · rename_i hd
    exact ((h.live (h.listens_of_link hd)).offer hd (partSyncFrame_sendable s)).lawful

/-! ## The tenth (R157, R178, R199, R200) -/

/-- The lines' own state is changed. -/
theorem State.Live.setLines (h : s.Live loose) {l : Lines} (hl : l.pulse ≤ 5) : ({ s with lines := l } : State).Live loose :=
  { h with port := ⟨h.port.1, h.port.2.1, hl⟩ }

/-- The count of the draws is changed, which no law speaks of. -/
theorem State.Live.draw (h : s.Live loose) (n : Nat) : ({ s with draws := n } : State).Live loose :=
  { h with }

theorem livenessDue_iff : s.livenessDue = true ↔ (s.link.state = .locked ∨ s.link.state = .checking) ∧ 1 ≤ s.link.liveness := by
  simp [State.livenessDue, Link.counting]

theorem State.Live.tenthLiveness (h : s.Live []) : (tenthLiveness s).Live [] := by
  unfold Machine.tenthLiveness
  split
  · rename_i hdue
    obtain ⟨hl, -⟩ := livenessDue_iff.1 hdue
    exact h.loseLock (by rcases hl with hl | hl <;> rw [hl] <;> decide)
  · rename_i hdue
    split
    · rename_i hc
      have hl : s.link.state = .locked ∨ s.link.state = .checking := by simpa [Link.counting] using hc
      have hzero : s.link.liveness = 0 := by
        by_contra hne
        exact hdue (livenessDue_iff.2 ⟨hl, Nat.pos_of_ne_zero hne⟩)
      obtain ⟨hup, hcold, hrun, -, hlocked, hrest⟩ := h.link
      exact { h with link := ⟨hup, hcold, hrun, by show s.link.liveness + 1 ≤ 2; omega,
        fun hx => ⟨(hlocked hx).1, by show s.link.liveness + 1 ≤ 1; omega⟩, hrest⟩ }
    · exact h

theorem State.Live.tenthLinkAndBlocks (h : s.Live []) : (tenthLinkAndBlocks s).Live [] := by
  unfold Machine.tenthLinkAndBlocks
  split
  · have hdrawn := h.draw (s.draws + 1)
    dsimp only
    split
    · exact hdrawn.tenthBlocks.tenthLiveness
    · exact hdrawn.tenthLiveness.tenthBlocks
  · exact h.tenthLiveness.tenthBlocks

theorem tenthPulse_le {n : Nat} (h : n ≤ 5) : n - 1 ≤ 5 := (Nat.sub_le _ _).trans h

/-- A tenth finds nothing to count on the link of a part that does not listen. -/
theorem tenthLinkAndBlocks_detached (h : s.Laws) (hd : s.link.state = .detached) : tenthLinkAndBlocks s = s := by
  obtain ⟨-, htable⟩ := h.sound.blocks.at_rest (by rw [hd]; decide) (by rw [hd]; decide)
  have hcount : s.link.counting = false := by simp [Link.counting, hd]
  have hdue : s.livenessDue = false := by simp [State.livenessDue, hcount]
  unfold tenthLinkAndBlocks
  rw [hdue, Bool.false_and, if_neg (by decide), tenthLiveness, hdue, if_neg (by decide), hcount, if_neg (by decide), tenthBlocks,
    htable]
  calc ({ s with upload.table := [] } : State) = { s with upload.table := s.upload.table } := by rw [htable]
    _ = s := rfl

/-- The lines of a part that is not started are at their power-on contents. -/
theorem State.Laws.lines_off (h : s.Laws) (hp : s.power ≠ .running) : s.lines = {} :=
  (congrArg State.lines (h.power hp)).symm

/-- The pulse and the release of the IND lines run down. -/
theorem State.Laws.setLines (h : s.Laws) {l : Lines} (hl : l.pulse ≤ 5) (hoff : s.power ≠ .running → l = {}) :
    ({ s with lines := l } : State).Laws :=
  { h with
    port := ⟨h.port.1, h.port.2.1, hl⟩
    power := fun hp => by
      have hlines : l = s.lines := (hoff hp).trans (h.lines_off hp).symm
      subst hlines
      exact h.power hp }

theorem execTenth_lawful (h : s.Laws) : Lawful (execTenth s) := by
  by_cases hd : s.link.state = .detached
  · unfold execTenth tenthPulse
    rw [tenthLinkAndBlocks_detached h hd]
    refine ⟨_, rfl, h.setLines (l := { pulse := s.lines.pulse - 1, indWait := false }) (tenthPulse_le h.port.2.2) fun hp => ?_⟩
    rw [h.lines_off hp]
    rfl
  · have hlive := (h.live (h.listens_of_link hd)).tenthLinkAndBlocks
    exact (hlive.setLines (l := { pulse := _, indWait := false }) (tenthPulse_le hlive.port.2.2)).lawful

theorem execSegmentPulseEnd_lawful (h : s.Laws) : Lawful (execSegmentPulseEnd s) := by
  unfold execSegmentPulseEnd
  split
  · refine ⟨_, rfl, h.setLines (l := { s.lines with pulse := 0 }) (Nat.zero_le _) fun hp => ?_⟩
    rw [h.lines_off hp]
  · exact ⟨s, rfl, h⟩

theorem execLivenessExpiry_lawful (h : s.Laws) : Lawful (execLivenessExpiry s) := by
  unfold execLivenessExpiry
  split
  · rename_i hdue
    obtain ⟨hl, -⟩ := livenessDue_iff.1 hdue
    have hd : s.link.state ≠ .detached := by rcases hl with hl | hl <;> rw [hl] <;> decide
    exact ((h.live (h.listens_of_link hd)).loseLock hd).lawful
  · exact ⟨s, rfl, h⟩

/-! ## The warm reset (R105, R195, R206) -/

/-- The record of a slot after the Evaluation Unit's part of a warm reset: one under computation goes back to QUEUED (R105). -/
def Record.requeue (r : Record) : Record := { r with eval := if r.eval = .running then .queued else r.eval }

/-- A RUNNING record is that of the computation, which has not departed. -/
theorem State.Sound.computation_of_running (h : s.Sound loose) {e : Nat × Record} (he : e ∈ s.roster.slots)
    (hr : e.2.eval = .running) : ∃ c, s.eval.running = some c ∧ c.slot = e.1 ∧ c.departed = false :=
  (h.record_mem he).running hr

/-- The record of an abandoned computation goes back to QUEUED: the first half of `resetEval`. -/
def requeueRunning (s : State) : State :=
  match s.eval.running with
  | none => s
  | some c =>
    if c.departed then s
    else
      match s.recordAt c.slot with
      | none => s
      | some r => if r.eval = .running then setRecord c.slot { r with eval := .queued } s else s

theorem resetEval_requeued (s : State) : resetEval s = { requeueRunning s with
    eval := { running := none
              queue := ((requeueRunning s).roster.slots.filter (fun e => decide (e.2.eval = .queued))).map (fun e => e.1) } } :=
  rfl

theorem requeueRunning_eq (h : s.Sound loose) :
    requeueRunning s = { s with roster.slots := s.roster.slots.map (fun e => (e.1, e.2.requeue)) } := by
  by_cases hex : ∃ e ∈ s.roster.slots, e.2.eval = .running
  · obtain ⟨e, he, hrun⟩ := hex
    obtain ⟨c, hc, hslot, hdep⟩ := h.computation_of_running he hrun
    have hr : s.recordAt c.slot = some e.2 := hslot ▸ h.roster.get he
    have hmap : s.roster.slots.map (fun f => (f.1, if f.1 = c.slot then { e.2 with eval := .queued } else f.2))
        = s.roster.slots.map (fun f => (f.1, f.2.requeue)) := by
      refine List.map_congr_left fun f hf => ?_
      by_cases hfs : f.1 = c.slot
      · have hfe : f.2 = e.2 := Option.some.inj ((h.roster.get hf).symm.trans (hfs ▸ hr))
        rw [if_pos hfs, Record.requeue, hfe, if_pos hrun]
      · have hnot : f.2.eval ≠ .running := fun hfr => by
          obtain ⟨c', hc', hslot', -⟩ := h.computation_of_running hf hfr
          obtain rfl := Option.some.inj (hc.symm.trans hc')
          exact hfs hslot'.symm
        rw [if_neg hfs, Record.requeue, if_neg hnot]
    rw [← hmap, ← setRecord_listed _ h.roster.rising hr]
    unfold requeueRunning
    rw [hc]
    dsimp only
    rw [hdep, hr]
    simp only [hrun, Bool.false_eq_true, if_false, if_true]
  · have hmap : s.roster.slots.map (fun e => (e.1, e.2.requeue)) = s.roster.slots := by
      refine (List.map_congr_left fun e he => ?_).trans (List.map_id _)
      rw [Record.requeue, if_neg fun hr => hex ⟨e, he, hr⟩]
      rfl
    rw [hmap]
    unfold requeueRunning
    split
    · rfl
    · rename_i c _
      split
      · rfl
      · split
        · rfl
        · rename_i r hr
          rw [if_neg fun hrun => hex ⟨(c.slot, r), mem_of_tableGet hr, hrun⟩]

/-- The slots of a roster that are QUEUED or RUNNING: the queue that a warm reset rebuilds (R105). -/
def requeued (slots : List (Nat × Record)) : List Nat :=
  (slots.filter (fun e => decide (e.2.eval = .queued) || decide (e.2.eval = .running))).map (fun e => e.1)

theorem requeued_map (slots : List (Nat × Record)) :
    ((slots.map (fun e => (e.1, e.2.requeue))).filter (fun e => decide (e.2.eval = .queued))).map (fun e => e.1)
      = requeued slots := by
  rw [List.filter_map, List.map_map]
  refine congrArg _ (List.filter_congr fun e _ => ?_)
  show decide ((if e.2.eval = .running then EvalState.queued else e.2.eval) = .queued) = _
  by_cases hr : e.2.eval = .running
  · simp [hr]
  · simp [hr]

/-- The Evaluation Unit's part of a warm reset, on the laws: no record but that of the computation is RUNNING (R105). -/
theorem resetEval_eq (h : s.Sound loose) : resetEval s
    = { s with
        roster.slots := s.roster.slots.map (fun e => (e.1, e.2.requeue))
        eval := { running := none, queue := requeued s.roster.slots } } := by
  rw [resetEval_requeued, requeueRunning_eq h]
  dsimp only
  rw [requeued_map]

end Sys2Proof.Machine

/-! PROOFS. The resets and the power keep every law; so does every command, and with it every step. -/

namespace Sys2Proof.Machine

variable {s : State} {loose : List Nat}

/-! ## The warm reset (R195, R206) -/

theorem mem_requeued {slots : List (Nat × Record)} (h : tableRising slots = true) {n : Nat} :
    n ∈ requeued slots ↔ ∃ r, tableGet slots n = some r ∧ (r.eval = .queued ∨ r.eval = .running) := by
  unfold requeued
  rw [List.mem_map]
  constructor
  · rintro ⟨e, he, rfl⟩
    obtain ⟨hmem, hp⟩ := List.mem_filter.1 he
    exact ⟨e.2, tableGet_of_mem h hmem, by simpa using hp⟩
  · rintro ⟨r, hr, he⟩
    exact ⟨(n, r), List.mem_filter.2 ⟨mem_of_tableGet hr, by simpa using he⟩, rfl⟩

theorem requeued_nodup {slots : List (Nat × Record)} (h : tableRising slots = true) : (requeued slots).Nodup := by
  rw [tableRising_iff] at h
  unfold requeued
  exact List.pairwise_map.2 ((h.filter _).imp Nat.ne_of_lt)

/-- The records after the Evaluation Unit's part of a warm reset. -/
theorem RecordsSound.requeue {ro : Roster} {get' : Nat → Option Record} {route : RouteState} {live : Settings} {ev : EvalUnit}
    {chain : List Nat} (h : RecordsSound (tableGet ro.slots) route live ev chain) (hr : tableRising ro.slots = true)
    (hget : ∀ n, get' n = (tableGet ro.slots n).map Record.requeue) :
    RecordsSound get' route live { running := none, queue := requeued ro.slots } chain := by
  refine ⟨fun n q hq => ?_, requeued_nodup hr, fun n hn => ?_, h.chainNodup, fun n hn => ?_, fun c hc => (by cases hc)⟩
  · rw [hget, Option.map_eq_some_iff] at hq
    obtain ⟨r, hr', rfl⟩ := hq
    have hs := h.each n r hr'
    obtain ⟨hread, hsig, hnone, hres, hdone, hflag, hrev, hcar⟩ := hs.holds
    have hqueued : r.requeue.eval = .queued ↔ r.eval = .queued ∨ r.eval = .running := by
      unfold Record.requeue
      cases hre : r.eval <;> simp
    have hkept {e : EvalState} (hq : e ≠ .queued) (hrun : e ≠ .running) : r.requeue.eval = e ↔ r.eval = e := by
      show (if r.eval = .running then EvalState.queued else r.eval) = e ↔ _
      by_cases hre : r.eval = .running
      · rw [if_pos hre, hre]
        exact ⟨fun he => absurd he.symm hq, fun he => absurd he.symm hrun⟩
      · rw [if_neg hre]
    have hnotrun : r.requeue.eval ≠ .running := by
      show (if r.eval = .running then EvalState.queued else r.eval) ≠ .running
      split
      · decide
      · assumption
    exact {
      inRange := hs.inRange
      holds := ⟨hread, hsig, (hkept (by decide) (by decide)).trans hnone, hres,
        fun hd => hdone ((hkept (by decide) (by decide)).1 hd), hflag, hrev, hcar⟩
      allowed := hs.allowed
      queued := by
        show n ∈ requeued ro.slots ↔ _
        rw [mem_requeued hr, hqueued]
        exact ⟨fun ⟨q, hq, he⟩ => Option.some.inj (hr'.symm.trans hq) ▸ he, fun he => ⟨r, hr', he⟩⟩
      flagged := hs.flagged
      running := fun hx => absurd hx hnotrun
      done := fun x hx hd => hs.done x hx ((hkept (by decide) (by decide)).1 hd)
      snapshot := fun x hx hd => absurd hd hnotrun }
  · obtain ⟨r, hr', -⟩ := (mem_requeued hr).1 hn
    exact ⟨r.requeue, by rw [hget, hr']; rfl⟩
  · obtain ⟨r, hr'⟩ := h.chainSlots n hn
    exact ⟨r.requeue, by rw [hget, hr']; rfl⟩

theorem State.Live.resetEval (h : s.Live loose) : (resetEval s).Live loose := by
  rw [resetEval_eq h.toSound]
  have hget : ∀ n, tableGet (s.roster.slots.map (fun e => (e.1, e.2.requeue))) n = (s.recordAt n).map Record.requeue := fun n =>
    tableGet_map (fun _ => Record.requeue) s.roster.slots n
  exact { h with
    roster := h.roster.remap (f := fun _ => Record.requeue) fun _ _ _ => rfl
    records := h.records.requeue (ro := s.roster) h.roster.rising hget
    segments := h.segments.recount (countIn_remap (f := fun _ => Record.requeue) fun _ _ => ⟨rfl, rfl⟩)
    blocks := h.blocks.of_carriers fun n => by
      show (tableGet (s.roster.slots.map (fun e => (e.1, e.2.requeue))) n).map Record.carrier = _
      rw [hget]
      cases s.recordAt n <;> rfl }

/-- What a warm reset does before each block's own items: the blocks abandoned, a dock-owned load discarded, and the queue
rebuilt. -/
def resetRecords (s : State) : State := resetEval (lockLoss s)

theorem resetRecords_live (h : s.Live []) :
    (resetRecords s).Live [] ∧ (resetRecords s).upload.table = [] ∧ (resetRecords s).upload.state = .idle
    ∧ (resetRecords s).eval.running = none := by
  obtain ⟨hlive, htable, hstate, -⟩ := h.lockLoss
  have hreset := hlive.resetEval
  unfold resetRecords
  rw [resetEval_eq hlive.toSound] at hreset ⊢
  exact ⟨hreset, htable, hstate, rfl⟩

/-- A loss of the lock and a warm reset of the records change the route, the records and what holds slots, and nothing else. -/
theorem lockLoss_frame (h : tableRising s.roster.slots = true) :
    lockLoss s = { s with
      roster := (lockLoss s).roster, route := (lockLoss s).route, eval := (lockLoss s).eval, chain := (lockLoss s).chain
      seg := (lockLoss s).seg, upload := (lockLoss s).upload } := by
  unfold lockLoss
  rw [abandonBlocks_eq h]
  unfold discardDockLoad
  split <;> rfl

theorem resetEval_frame (s : State) :
    resetEval s = { s with roster := (resetEval s).roster, eval := (resetEval s).eval } := by
  have hinner : requeueRunning s = { s with roster := (requeueRunning s).roster } := by
    unfold requeueRunning
    split
    · rfl
    · split
      · rfl
      · split
        · rfl
        · split <;> rfl
  rw [resetEval_requeued]
  generalize requeueRunning s = t at hinner ⊢
  rw [hinner]

theorem resetRecords_frame (h : tableRising s.roster.slots = true) :
    resetRecords s = { s with
      roster := (resetRecords s).roster, route := (resetRecords s).route, eval := (resetRecords s).eval
      chain := (resetRecords s).chain, seg := (resetRecords s).seg, upload := (resetRecords s).upload } := by
  have hloss := lockLoss_frame h
  have hreset := resetEval_frame (lockLoss s)
  unfold resetRecords
  generalize resetEval (lockLoss s) = u at hreset ⊢
  generalize lockLoss s = t at hloss hreset
  rw [hloss] at hreset
  rw [hreset]

/-- The warm reset of the records and the levels of the pins do not meet. -/
theorem resetRecords_pins (h : tableRising s.roster.slots = true) (low present : Bool) :
    resetRecords { s with resetLow := low, dockPresent := present }
      = { resetRecords s with resetLow := low, dockPresent := present } := by
  unfold resetRecords lockLoss
  rw [abandonBlocks_eq (s := { s with resetLow := low, dockPresent := present }) h, abandonBlocks_eq h]
  have hdiscard (t : State) : discardDockLoad { t with resetLow := low, dockPresent := present }
      = { discardDockLoad t with resetLow := low, dockPresent := present } := by
    unfold discardDockLoad
    dsimp only
    split <;> rfl
  have hrequeue (t : State) : resetEval { t with resetLow := low, dockPresent := present }
      = { resetEval t with resetLow := low, dockPresent := present } := by
    have hinner : requeueRunning { t with resetLow := low, dockPresent := present }
        = { requeueRunning t with resetLow := low, dockPresent := present } := by
      unfold requeueRunning
      cases hc : t.eval.running with
      | none => rfl
      | some c =>
        dsimp only
        cases hr : t.recordAt c.slot with
        | none =>
          rw [show ({ t with resetLow := low, dockPresent := present } : State).recordAt c.slot = none from hr]
          split <;> rfl
        | some r =>
          rw [show ({ t with resetLow := low, dockPresent := present } : State).recordAt c.slot = some r from hr]
          dsimp only
          split
          · rfl
          · split <;> rfl
    rw [resetEval_requeued, resetEval_requeued, hinner]
  rw [← hrequeue, ← hdiscard]

/-- The channels of a part at a warm reset. -/
theorem channelLaw_all : ∀ (enables : Quad Bool) (ch : Fin 4), ((Quad.all {} : Quad Channel).get ch).inRange
    ∧ (enables.get ch = false → ((Quad.all {} : Quad Channel).get ch).rx = .gapWait) := by
  intro enables ch
  have hall : (Quad.all {} : Quad Channel).get ch = {} := by fin_cases ch <;> rfl
  rw [hall]
  exact ⟨⟨Nat.zero_le _, List.forall_mem_nil _, Nat.zero_le _, rfl, fun _ => rfl,
    (Stats.inRange_iff {}).2 fun k => by cases k <;> exact Nat.zero_le _⟩, fun _ => rfl⟩

/-- A warm reset with its other levels of the pins and lines, once the link's law is seen to. -/
theorem warmReset_sound (h : (resetRecords s).Sound []) (htable : (resetRecords s).upload.table = [])
    (hidle : (resetRecords s).upload.state = .idle) (cause : ResetCause) {low present : Bool} {lines : Lines}
    (hlines : lines.pulse ≤ 5)
    (hlink : ({ warmReset cause s with resetLow := low, dockPresent := present } : State).linkLaw) :
    ({ warmReset cause s with resetLow := low, dockPresent := present, lines := lines } : State).Sound [] := by
  obtain ⟨hcursor, -⟩ := h.blocks.counts
  have hg := h.segments
  exact { h with
    segments := { hg with
      staged := hg.applied
      stagedZero := fun ha hr => hg.appliedZero ha }
    blocks := { h.blocks with
      locked := fun hn => absurd htable hn
      busy := fun hn => absurd hidle hn
      counts := ⟨hcursor, Nat.zero_le _, Nat.zero_le _, Nat.zero_le _, Nat.zero_le _, Nat.zero_le _, Nat.zero_le _⟩ }
    tx := txLaw_nil rfl
    link := hlink
    channel := channelLaw_all _
    port := ⟨fun _ hn => (by cases hn), fun _ hr => (by cases hr), hlines⟩ }

/-- The link of a part that a warm reset leaves, while no dock is mated or RESET_N is low. -/
theorem warmReset_linkLaw (cause : ResetCause) {low present : Bool} (hoff : low = true ∨ present = false) :
    ({ warmReset cause s with resetLow := low, dockPresent := present } : State).linkLaw := by
  refine ⟨⟨fun _ hx => ?_, fun _ => rfl⟩, fun _ => ⟨rfl, rfl, rfl, rfl, rfl, rfl⟩, Nat.zero_le _, Nat.zero_le _,
    fun hx => (by rcases hx with hx | hx <;> cases hx), fun hx => (by cases hx), Nat.zero_le _, Nat.zero_le _, trivial⟩
  obtain ⟨hawake, hpresent⟩ := hx
  have hlow : low = false := ((listens_iff _).2 hawake).2
  have hpresent : present = true := hpresent
  rcases hoff with hoff | hoff
  · cases hlow.symm.trans hoff
  · cases hpresent.symm.trans hoff

/-- On a started part, held or not, the warm reset of the records is sound. -/
theorem resetRecords_sound (h : s.Laws) (hp : s.power = .running) :
    (resetRecords s).Sound [] ∧ (resetRecords s).upload.table = [] ∧ (resetRecords s).upload.state = .idle
    ∧ (resetRecords s).eval.running = none := by
  cases hr : s.resetLow with
  | false =>
    obtain ⟨hlive, hrest⟩ := resetRecords_live (h.live ⟨hp, hr⟩)
    exact ⟨hlive.toSound, hrest⟩
  | true =>
    have hd : s.link.state = .detached := h.link.1.2 fun hx => by
      have := ((listens_iff s).2 hx.1).2
      rw [hr] at this
      cases this
    have hfree : ({ s with resetLow := false, dockPresent := false } : State).Live [] :=
      { h.sound with
        listens := ⟨hp, rfl⟩
        link := ⟨⟨fun _ hx => (by cases hx.2), fun _ => hd⟩, h.link.2⟩ }
    obtain ⟨hlive, htable, hidle, hrunning⟩ := resetRecords_live hfree
    have heq : resetRecords s
        = { resetRecords { s with resetLow := false, dockPresent := false } with
            resetLow := s.resetLow, dockPresent := s.dockPresent } :=
      resetRecords_pins (s := { s with resetLow := false, dockPresent := false }) h.sound.roster.rising s.resetLow s.dockPresent
    have hframe := resetRecords_frame (s := { s with resetLow := false, dockPresent := false }) h.sound.roster.rising
    rw [heq]
    generalize resetRecords { s with resetLow := false, dockPresent := false } = t at hlive htable hidle hrunning hframe
    have hlink : t.link = s.link := by rw [hframe]
    refine ⟨{ hlive.toSound with link := ⟨?_, ?_⟩ }, htable, hidle, hrunning⟩
    · refine ⟨fun _ hx => ?_, fun _ => (congrArg Link.state hlink).trans hd⟩
      have hlow : s.resetLow = false := ((listens_iff _).2 hx.1).2
      cases hr.symm.trans hlow
    · exact hlive.link.2

/-- The link of a part that starts, or that a reset leaves, becomes ACQUIRING if a dock is mated (R166). -/
theorem State.Sound.mate (h : ({ s with dockPresent := false } : State).Sound []) (hl : s.listens) (hd : s.link.state = .detached) :
    (acquireIfPresent s).Live [] := by
  obtain ⟨-, hcold, hrun, hlive, -, -, -, -, -⟩ := h.link
  obtain ⟨htx, -, -, -, herr, hpat⟩ := hcold hd
  have hd' : ({ s with dockPresent := false } : State).link.state = .detached := hd
  obtain ⟨hidle, htable⟩ := h.blocks.at_rest (by rw [hd']; decide) (by rw [hd']; decide)
  unfold acquireIfPresent
  split
  · rename_i hp
    exact { h with
      listens := hl
      tx := txLaw_nil htx
      link := ⟨⟨fun hx => (by cases hx), fun hx => absurd ⟨(listens_iff s).1 hl, hp⟩ hx⟩, fun hx => (by cases hx), Nat.zero_le _,
        hlive, fun hx => (by rcases hx with hx | hx <;> cases hx), fun hx => (by cases hx), herr ▸ Nat.zero_le _,
        hpat ▸ Nat.zero_le _, trivial⟩
      blocks := h.blocks.relink (fun hn => absurd htable hn) fun hn => absurd hidle hn }
  · rename_i hp
    have hp : s.dockPresent = false := Bool.eq_false_iff.2 hp
    exact { h with
      listens := hl
      link := ⟨⟨fun _ hx => (by cases hp.symm.trans hx.2), fun _ => hd⟩, h.link.2⟩ }

/-! ## The commands of the resets and the power (R195, R204 to R206) -/

theorem commandReset_lawful (h : s.Live []) : Lawful (.next (commandReset s)) := by
  have hlaws := h.laws
  obtain ⟨hsound, htable, hidle, -⟩ := resetRecords_sound hlaws h.listens.1
  have hframe := resetRecords_frame hlaws.sound.roster.rising
  have hpower : (warmReset .resetCommand s).power = s.power := by
      show (resetRecords s).power = s.power
      rw [hframe]
  have hlow : (warmReset .resetCommand s).resetLow = s.resetLow := by
      show (resetRecords s).resetLow = s.resetLow
      rw [hframe]
  exact (State.Sound.mate (s := { warmReset .resetCommand s with lines.indWait := true })
    (warmReset_sound hsound htable hidle .resetCommand (low := (warmReset .resetCommand s).resetLow)
      (lines := { pulse := 0, indWait := true }) (Nat.zero_le _) (warmReset_linkLaw _ (.inr rfl)))
    ⟨hpower.trans h.listens.1, hlow.trans h.listens.2⟩ rfl).lawful

theorem execResetNFall_lawful (h : s.Laws) : Lawful (execResetNFall s) := by
  unfold execResetNFall
  split
  · rename_i hp
    obtain ⟨hsound, htable, hidle, hrunning⟩ := resetRecords_sound h hp
    have hframe := resetRecords_frame h.sound.roster.rising
    have hpower : (warmReset .resetLine s).power = s.power := by
      show (resetRecords s).power = s.power
      rw [hframe]
    have hreset := warmReset_sound hsound htable hidle .resetLine (low := true) (present := (warmReset .resetLine s).dockPresent)
      (lines := (warmReset .resetLine s).lines) (Nat.zero_le _) (warmReset_linkLaw _ (.inl rfl))
    exact ⟨_, rfl, hreset.laws (fun hx => absurd (hpower.trans hp) hx) fun _ => ⟨rfl, hrunning, rfl, rfl⟩⟩
  · rename_i hp
    have hpc := h.power hp
    have hd : s.link.state = .detached := (congrArg (fun t : State => t.link.state) hpc).symm
    refine ⟨_, rfl, { h with
      link := ⟨⟨fun _ hx => hp ((listens_iff _).2 hx.1).1, fun _ => hd⟩, h.link.2⟩
      power := powerLaw_keep (f := fun s => { s with resetLow := true }) h.power rfl rfl
      hold := fun _ => ⟨?_, ?_, ?_, ?_⟩ }⟩
    · exact (congrArg State.channels hpc).symm
    · exact (congrArg (fun t : State => t.eval.running) hpc).symm
    · exact (congrArg (fun t : State => t.port.buffer) hpc).symm
    · exact (congrArg (fun t : State => t.port.causes) hpc).symm

theorem execResetNRise_lawful (h : s.Laws) : Lawful (execResetNRise s) := by
  unfold execResetNRise
  dsimp only
  split
  · rename_i hheld
    obtain ⟨hp, hr⟩ := Bool.and_eq_true_iff.1 hheld
    have hp : s.power = .running := of_decide_eq_true hp
    have hd : s.link.state = .detached := h.link.1.2 fun hx => by
      cases hr.symm.trans ((listens_iff s).2 hx.1).2
    refine (State.Sound.mate (s := { s with resetLow := false }) { h.sound with
      link := ⟨⟨fun _ hx => (by cases hx.2), fun _ => hd⟩, h.link.2⟩ } ⟨hp, rfl⟩ hd).lawful
  · rename_i hheld
    by_cases hp : s.power = .running
    · have hr : s.resetLow = false := by simpa [hp] using hheld
      have hsame : ({ s with resetLow := false } : State) = s := by rw [← hr]
      rw [hsame]
      exact ⟨s, rfl, h⟩
    · have hd : s.link.state = .detached := (congrArg (fun t : State => t.link.state) (h.power hp)).symm
      exact ⟨_, rfl, { h with
        link := ⟨⟨fun _ hx => hp ((listens_iff _).2 hx.1).1, fun _ => hd⟩, h.link.2⟩
        power := powerLaw_keep (f := fun s => { s with resetLow := false }) h.power rfl rfl
        hold := fun hx => (by cases hx) }⟩

/-- What the autoload leaves in the Settings Store is in range, whatever the image (R205). -/
theorem autoloadStore_settings (h : s.settingsLaw) {u : State} (hu : u.store = autoloadStore s.store) : u.settingsLaw := by
  obtain ⟨-, hcopy, himage⟩ := h
  have hkept : (autoloadStore s.store).image = s.store.image ∧ (autoloadStore s.store).commit = s.store.commit := by
    unfold autoloadStore
    split
    · split <;> exact ⟨rfl, rfl⟩
    · exact ⟨rfl, rfl⟩
  refine ⟨?_, ?_, ?_⟩
  · rw [hu]
    unfold autoloadStore
    split
    · split
      · exact settingsOf_inRange _
      · exact defaultSettings_inRange
    · exact defaultSettings_inRange
  · rw [hu, hkept.2]
    exact hcopy
  · rw [hu, hkept.1]
    exact himage

theorem execAutoloadEnd_lawful (h : s.Laws) : Lawful (execAutoloadEnd s) := by
  unfold execAutoloadEnd
  split
  · rename_i hp
    have hpc := h.power (by rw [hp]; decide)
    have hd : s.link.state = .detached := (congrArg (fun t : State => t.link.state) hpc).symm
    have hch : s.channels = Quad.all {} := (congrArg State.channels hpc).symm
    have hnone (n : Nat) : s.recordAt n = none := (congrArg (fun t : State => t.recordAt n) hpc).symm
    have hsettings := autoloadStore_settings (u := { s with power := .running, store := autoloadStore s.store }) h.settings rfl
    have hstarted (low present : Bool) (hoff : low = true ∨ present = false) :
        ({ s with power := .running, resetLow := low, dockPresent := present, store := autoloadStore s.store } : State).Sound [] := by
      refine { h.sound with
        records := h.sound.records.of_none hnone
        link := ⟨⟨fun _ hx => ?_, fun _ => hd⟩, h.link.2⟩
        channel := ?_
        settings := hsettings }
      · obtain ⟨hawake, hpresent⟩ := hx
        have hlow : low = false := ((listens_iff _).2 hawake).2
        have hpresent : present = true := hpresent
        rcases hoff with hoff | hoff
        · cases hlow.symm.trans hoff
        · cases hpresent.symm.trans hoff
      · show ∀ ch : Fin 4, (s.channels.get ch).inRange ∧ _
        rw [hch]
        exact channelLaw_all _
    dsimp only
    split
    · rename_i hr
      have hsound := hstarted s.resetLow s.dockPresent (.inl hr)
      refine ⟨_, rfl, hsound.laws (fun hx => absurd rfl hx) fun _ => ⟨hch, ?_, ?_, ?_⟩⟩
      · exact (congrArg (fun t : State => t.eval.running) hpc).symm
      · exact (congrArg (fun t : State => t.port.buffer) hpc).symm
      · exact (congrArg (fun t : State => t.port.causes) hpc).symm
    · rename_i hr
      exact (State.Sound.mate (s := { s with power := .running, store := autoloadStore s.store })
        (hstarted s.resetLow false (.inr rfl)) ⟨rfl, Bool.eq_false_iff.2 hr⟩ hd).lawful
  · exact ⟨s, rfl, h⟩

theorem execPowerOn_lawful (h : s.Laws) : Lawful (execPowerOn s) :=
  ⟨_, rfl, powerOnContents_laws (by decide) (State.Laws.imageUnpowered_sized h.settings)⟩

theorem execSupplyFailure_lawful (h : s.Laws) : Lawful (execSupplyFailure s) :=
  ⟨_, rfl, powerOnContents_laws (by decide) (State.Laws.imageUnpowered_sized h.settings)⟩

theorem execSettingsCommitCompletion_lawful (h : s.Laws) : Lawful (execSettingsCommitCompletion s) := by
  unfold execSettingsCommitCompletion
  split
  · exact ⟨s, rfl, h⟩
  · rename_i c hc
    obtain ⟨hlive, -, -⟩ := h.settings
    refine ⟨_, rfl, { h with
      settings := ⟨hlive, fun _ hx => (by cases hx), ?_⟩
      power := fun hp => ?_ }⟩
    · show (c.copy.imageBody ++ beBytes 2 c.check).length = 256
      rw [List.length_append, imageBody_length, beBytes_length]
    · have hnone : s.store.commit = none := (congrArg (fun t : State => t.store.commit) (h.power hp)).symm
      cases hc.symm.trans hnone

end Sys2Proof.Machine

/-! PROOFS. Every command keeps every law of the part, and with it every step. -/

namespace Sys2Proof.Machine

variable {s : State}

/-! ## The events of the Evaluation Unit -/

theorem State.Laws.evaluationStart (h : s.Laws) : Lawful (execEvaluationStart s) := by
  by_cases hs : s.listens
  · exact execEvaluationStart_lawful (h.live hs)
  · rw [execEvaluationStart_notMade (.inl hs)]
    exact ⟨s, rfl, h⟩

/-- A part that has not started, or that RESET_N holds, runs no computation. -/
theorem State.Laws.not_running (h : s.Laws) (hs : ¬ s.listens) : s.eval.running = none := by
  by_cases hp : s.power = .running
  · obtain ⟨-, hnone, -⟩ := h.hold (Bool.not_eq_false _ ▸ fun hr => hs ⟨hp, hr⟩)
    exact hnone
  · exact (congrArg (fun t : State => t.eval.running) (h.power hp)).symm

theorem State.Laws.evaluationCompletion (h : s.Laws) : Lawful (execEvaluationCompletion s) := by
  by_cases hs : s.listens
  · exact execEvaluationCompletion_lawful (h.live hs)
  · rw [execEvaluationCompletion_idle (h.not_running hs)]
    exact ⟨s, rfl, h⟩

/-! ## Every command, and every step -/

/-- Every command but UNKNOWN_COMMAND, which may name another one, keeps every law. -/
theorem exec_lawful_of_named (c : Instr) (hc : ∀ code tx, c ≠ .unknownCommand code tx) (h : s.Laws) : Lawful (exec c s) := by
  cases c with
  | powerOn => exact execPowerOn_lawful h
  | autoloadEnd => exact execAutoloadEnd_lawful h
  | resetNFall => exact execResetNFall_lawful h
  | resetNRise => exact execResetNRise_lawful h
  | tenth => exact execTenth_lawful h
  | routeSecond => exact execRouteSecond_lawful h
  | segmentDeadlineExpiry segment => exact execSegmentDeadlineExpiry_lawful segment h
  | segmentPulseEnd => exact execSegmentPulseEnd_lawful h
  | channelWordArrival ch bytes => exact execChannelWordArrival_lawful h ch bytes
  | wordEndGap ch => exact execWordEndGap_lawful h ch
  | take => exact execTake_lawful h
  | evaluationStart => exact h.evaluationStart
  | evaluationCompletion => exact h.evaluationCompletion
  | dockPresentRise => exact execDockPresentRise_lawful h
  | dockPresentFall => exact execDockPresentFall_lawful h
  | livenessExpiry => exact execLivenessExpiry_lawful h
  | syncIntervalExpiry => exact execSyncIntervalExpiry_lawful h
  | frameSend => exact execFrameSend_lawful h
  | erroredFrame line => exact execErroredFrame_lawful line h
  | unusableFrame typ payload => exact execUnusableFrame_lawful typ payload h
  | sync => exact h.arrival syncArrival_detached fun hl => hl.syncArrival
  | routeOpen payload => exact h.sized fun _ hl _ => hl.dockRouteOpen payload
  | routeRecord payload => exact h.sized fun _ hl _ => hl.dockRouteRecord payload
  | routeSeal => exact h.message fun _ hl _ => hl.dockRouteSeal
  | routeAbort => exact h.message fun _ hl _ => hl.dockRouteAbort
  | closeRoute => exact h.message fun _ hl _ => hl.dockCloseRoute
  | uploadRequest => exact h.message fun _ hl hs => hl.uploadRequest hs
  | uploadStop => exact h.message fun _ hl hs => hl.uploadStop hs
  | blockAck payload => exact h.sized fun _ hl _ => hl.blockAck payload
  | checkStart => exact h.message fun _ hl hs => hl.checkStart hs
  | checkPattern payload => exact execCheckPattern_lawful payload h
  | checkEnd => exact h.arrival checkEndArrival_detached fun hl => hl.checkEndArrival
  | blockExpiry block => exact execBlockExpiry_lawful block h
  | assembly => exact execAssembly_lawful h
  | endOfPass => exact execEndOfPass_lawful h
  | response clocked dropped => exact execResponse_lawful clocked dropped h
  | unknownCommand code tx => exact absurd rfl (hc code tx)
  | settingsCommitCompletion => exact execSettingsCommitCompletion_lawful h
  | supplyFailure => exact execSupplyFailure_lawful h
  | reset tx => exact command_lawful h fun _ _ hs _ => commandReset_lawful hs
  | status tx => exact command_lawful h fun args _ hs _ => commandStatus_lawful args hs
  | readCauses tx => exact command_lawful h fun args _ hs _ => commandReadCauses_lawful args hs
  | loadOpen tx => exact command_lawful h fun args _ hs _ => commandLoadOpen_lawful args hs
  | loadRecord tx => exact command_lawful h fun args _ hs _ => commandLoadRecord_lawful args hs
  | loadSeal tx => exact command_lawful h fun args _ hs _ => commandLoadSeal_lawful args hs
  | rejectRead tx => exact command_lawful h fun args _ hs _ => commandRejectRead_lawful args hs
  | routeBegin tx => exact command_lawful h fun args _ hs _ => commandRouteBegin_lawful args hs
  | routeClose tx => exact command_lawful h fun args _ hs _ => commandRouteClose_lawful args hs
  | routeDiscard tx => exact command_lawful h fun args _ hs _ => commandRouteDiscard_lawful args hs
  | lookup tx => exact command_lawful h fun args _ hs _ => commandLookup_lawful args hs
  | readSlot tx => exact command_lawful h fun args _ hs _ => commandReadSlot_lawful args hs
  | readNext tx => exact command_lawful h fun args _ hs _ => commandReadNext_lawful args hs
  | insert tx => exact command_lawful h fun args _ hs _ => commandInsert_lawful args hs
  | amend tx => exact command_lawful h fun args _ hs _ => commandAmend_lawful args hs
  | retire tx => exact command_lawful h fun args _ hs _ => commandRetire_lawful args hs
  | reevaluate tx => exact command_lawful h fun args _ hs _ => commandReevaluate_lawful args hs
  | profileWrite tx => exact command_lawful h fun args _ hs _ => commandProfileWrite_lawful args hs
  | profileRead tx => exact command_lawful h fun args _ hs _ => commandProfileRead_lawful args hs
  | channelStats tx => exact command_lawful h fun args _ hs _ => commandChannelStats_lawful args hs
  | flagRead tx => exact command_lawful h fun args _ hs _ => commandFlagRead_lawful args hs
  | review tx => exact command_lawful h fun args _ hs _ => commandReview_lawful args hs
  | reviewHead tx => exact command_lawful h fun args _ hs _ => commandReviewHead_lawful args hs
  | segmentRead tx => exact command_lawful h fun args _ hs _ => commandSegmentRead_lawful args hs
  | windowStage tx => exact command_lawful h fun args _ hs _ => commandWindowStage_lawful args hs
  | windowDepth tx => exact command_lawful h fun args _ hs _ => commandWindowDepth_lawful args hs
  | windowRead tx => exact command_lawful h fun args _ hs _ => commandWindowRead_lawful args hs
  | windowApply tx => exact command_lawful h fun args _ hs _ => commandWindowApply_lawful args hs
  | revisitRead tx => exact command_lawful h fun args _ hs _ => commandRevisitRead_lawful args hs
  | waive tx => exact command_lawful h fun args _ hs _ => commandWaive_lawful args hs
  | settingsWrite tx => exact command_lawful h fun args _ hs _ => commandSettingsWrite_lawful args hs
  | settingsCommit tx => exact command_lawful h fun args _ hs _ => commandSettingsCommit_lawful args hs
  | indicatorSet tx => exact command_lawful h fun args _ hs _ => commandIndicatorSet_lawful args hs

theorem hostRow_ne_unknownCommand {row : HostRow} (hrow : row ∈ hostRows) (tx : Tx) (code : Byte) (tx' : Tx) :
    row.row tx ≠ .unknownCommand code tx' := by
  simp only [hostRows, List.mem_cons, List.not_mem_nil, or_false] at hrow
  rcases hrow with rfl | rfl | rfl | rfl | rfl | rfl | rfl | rfl | rfl | rfl | rfl | rfl | rfl | rfl | rfl | rfl | rfl | rfl
    | rfl | rfl | rfl | rfl | rfl | rfl | rfl | rfl | rfl | rfl | rfl | rfl | rfl | rfl | rfl
  all_goals exact nofun

theorem execUnknownCommand_lawful (code : Byte) (tx : Tx) (h : s.Laws) : Lawful (execUnknownCommand code tx s) := by
  rcases execUnknownCommand_cases code tx s with ⟨row, hrow, -, he⟩ | ⟨-, he⟩ | he <;> rw [he]
  · exact exec_lawful_of_named _ (hostRow_ne_unknownCommand hrow tx) h
  · exact execResponse_lawful _ _ h
  · split
    · rename_i ht
      exact ((h.live ((takes_eq s tx.dropped).1 ht).1).carryFill tx).reply _ (by simp)
    · exact ⟨s, rfl, h⟩

/-- Every command keeps every law. -/
theorem exec_lawful (c : Instr) (h : s.Laws) : Lawful (exec c s) := by
  by_cases hc : ∃ code tx, c = .unknownCommand code tx
  · obtain ⟨code, tx, rfl⟩ := hc
    exact execUnknownCommand_lawful code tx h
  · exact exec_lawful_of_named c (fun code tx he => hc ⟨code, tx, he⟩) h

/-- The queue of commands is no part of the laws. -/
theorem State.Laws.setPending (h : s.Laws) (pending : List Instr) : ({ s with pending := pending } : State).Laws :=
  { h with power := powerLaw_keep (f := fun s => { s with pending := pending }) h.power rfl rfl }

/-- Settles O4: every command completes in a lawful state, for it reaches another one. -/
theorem lawsNeverFault : Obligations.LawsNeverFault := by
  intro c s h
  obtain ⟨t, ht, -⟩ := exec_lawful c h
  exact ⟨t, ht⟩

/-- Settles O12: a step is a command on the queue's rest, and every command keeps every law. -/
theorem stepKeepsAllLaws : Obligations.StepKeepsAllLaws := by
  intro s t h hstep
  unfold step at hstep
  split at hstep
  · cases hstep
    exact h
  · rename_i c rest _
    obtain ⟨u, hu, hlaws⟩ := exec_lawful c (h.setPending rest)
    cases hu.symm.trans hstep
    exact hlaws

/-- Settles O5: the part of O12 about the stores, the index and the records. -/
theorem stepKeepsTheRoster : Obligations.StepKeepsTheRoster := fun s t h hstep =>
  have ht := stepKeepsAllLaws s t h hstep
  ⟨ht.tables, ht.index, ht.record⟩

/-- Settles O6: the part of O12 about the queue, the running computation and the chain. -/
theorem stepKeepsQueueAndChain : Obligations.StepKeepsQueueAndChain := fun s t h hstep =>
  have ht := stepKeepsAllLaws s t h hstep
  ⟨ht.queue, ht.running, ht.chain⟩

/-- Settles O7: the part of O12 about results and snapshots. -/
theorem stepKeepsResultsFresh : Obligations.StepKeepsResultsFresh := fun s t h hstep => (stepKeepsAllLaws s t h hstep).fresh

/-- Settles O8: the part of O12 about Route Control, EMPTY and the windows. -/
theorem stepKeepsRoute : Obligations.StepKeepsRoute := fun s t h hstep =>
  have ht := stepKeepsAllLaws s t h hstep
  ⟨ht.route, ht.empty, ht.window⟩

/-- Settles O9: the part of O12 about the segments. -/
theorem stepKeepsSegments : Obligations.StepKeepsSegments := fun s t h hstep =>
  have ht := stepKeepsAllLaws s t h hstep
  ⟨ht.segCount, ht.segState, ht.revisit⟩

/-- Settles O10: the part of O12 about the link and the upload. -/
theorem stepKeepsLinkAndBlocks : Obligations.StepKeepsLinkAndBlocks := fun s t h hstep =>
  have ht := stepKeepsAllLaws s t h hstep
  ⟨ht.tx, ht.link, ht.upload⟩

/-- Settles O11: the part of O12 about the channels, a held reset, the settings, the port and the power. -/
theorem stepKeepsChannelsAndPort : Obligations.StepKeepsChannelsAndPort := fun s t h hstep =>
  have ht := stepKeepsAllLaws s t h hstep
  ⟨ht.channel, ht.hold, ht.settings, ht.port, ht.power⟩

end Sys2Proof.Machine

/-! PROOFS. WINDOW APPLY's answer, the lookups and the reads of records (R136 to R139, R9, R20 to R22). -/

namespace Sys2Proof.Machine

/-! ## WINDOW APPLY (R136 to R139) -/

theorem exec_windowApply (tx : Tx) (s : State) : exec (.windowApply tx) s = command 0x54#8 0 commandWindowApply tx s := rfl

/-- Beyond the 1024 segments no window reaches, and nothing is settled. -/
theorem settled_beyond {s : State} {n : Nat} (hn : ¬ n < 1024) : s.settled n = s.segAt n := by
  have hold : s.seg.applied.covers n = false := Bool.eq_false_iff.2 fun hc => hn (covers_lt hc)
  have hnew : s.seg.staged.covers n = false := Bool.eq_false_iff.2 fun hc => hn (covers_lt hc)
  have henters : s.enters n = false := by rw [State.enters, hnew, Bool.false_and]
  simp [State.settled, State.wakes, State.leaves, henters, hold]

/-- Settles O32, by the closed form of the apply over the 1024 segments. -/
theorem windowApplySettlesEverySegment : Obligations.WindowApplySettlesEverySegment := by
  intro s hs
  have answers {st data t} : commandWindowApply [] (carryFill (txCarrying []) s)
      = reply st data (carryFill (txCarrying []) t) → Answers .windowApply [] s st data t :=
    answers_of_reply exec_windowApply hs rfl (by decide)
  refine ⟨fun hr => answers (if_neg hr), fun h ha => ?_⟩
  intro old new grace entered left wakes all
  have happlied := applyWindows_applied (carryFill (txCarrying []) s)
  generalize ha' : applyWindows (carryFill (txCarrying []) s) = a at happlied
  have howned : commandWindowApply [] (carryFill (txCarrying []) s)
      = reply .ok (beBytes 1 new.coveredCount ++ beBytes 1 a.active ++ beBytes 1 a.trailing ++ beBytes 1 a.missed) a.state := by
    rw [← ha']
    exact if_pos ha
  rw [happlied.active, happlied.trailing, happlied.missed, happlied.frame] at howned
  have hrevisit : s.revisitAfter all
      = s.seg.revisit.filter (fun n => !wakes n) ++ (if grace = 0 then all.filter left else []) := by
    refine congrArg (· ++ _) (List.filter_congr fun n hn => ?_)
    have hlt := ((h.sound.segments.revisit n).1 hn).1
    simp only [all, List.mem_range, hlt, decide_true, Bool.true_and]
    rfl
  refine ⟨s.applying all a.state.seg.table, answers howned, fun n => ?_, ?_⟩
  · refine (congrFun (congrArg State.segAt happlied.frame.symm) n).trans ((happlied.entries n).trans ?_)
    split
    · rfl
    · rename_i hn
      exact (settled_beyond (fun hlt => hn (List.mem_range.2 hlt))).symm
  · unfold State.applying
    rw [hrevisit]
    rfl

/-! ## The lookups and the reads (R9, R20 to R22) -/

theorem exec_lookup (tx : Tx) (s : State) : exec (.lookup tx) s = command 0x20#8 4 commandLookup tx s := rfl

theorem exec_readSlot (tx : Tx) (s : State) : exec (.readSlot tx) s = command 0x21#8 2 commandReadSlot tx s := rfl

theorem exec_readNext (tx : Tx) (s : State) : exec (.readNext tx) s = command 0x22#8 0 commandReadNext tx s := rfl

/-- A meter_id alone in the arguments reads back. -/
theorem fieldAt_word (id : Word) (rest : List Byte) : BitVec.ofNat 32 (fieldAt (beBytes 4 id.toNat ++ rest) 0 4) = id := by
  rw [fieldAt_head, Nat.mod_eq_of_lt (by simpa using id.isLt), BitVec.ofNat_toNat, BitVec.setWidth_eq]

section
variable {s : State}

theorem slotAbove_eq (s : State) (cursor : Option Nat) :
    s.slotAbove cursor = s.roster.slots.find? (fun e => cursor.all fun c => decide (c < e.1)) := by
  cases cursor <;> rfl

theorem above_iff {cursor : Option Nat} {n : Nat} :
    (cursor.all fun c => decide (c < n)) = true ↔ ∀ c, cursor = some c → c < n := by
  cases cursor <;> simp

/-- READ NEXT's slot is the lowest-numbered occupied one above the cursor. -/
theorem slotAbove_eq_some (h : tableRising s.roster.slots = true) {cursor : Option Nat} {n : Nat} {r : Record}
    (hr : s.recordAt n = some r) (hn : ∀ c, cursor = some c → c < n)
    (hleast : ∀ m, m < n → (∀ c, cursor = some c → c < m) → s.recordAt m = none) :
    s.slotAbove cursor = some (n, r) := by
  rw [slotAbove_eq]
  have hmem : (n, r) ∈ s.roster.slots := mem_of_tableGet hr
  have hp : (cursor.all fun c => decide (c < n)) = true := above_iff.2 hn
  cases hf : s.roster.slots.find? (fun e => cursor.all fun c => decide (c < e.1)) with
  | none => exact absurd hp (List.find?_eq_none.1 hf _ hmem)
  | some e =>
    obtain ⟨he, before, after, hsplit, hbefore⟩ := List.find?_eq_some_iff_append.1 hf
    have hslot : s.recordAt e.1 = some e.2 := tableGet_of_mem h (List.mem_of_find?_eq_some hf)
    rw [hsplit] at hmem
    rcases List.mem_append.1 hmem with hm | hm
    · have hnot := hbefore _ hm
      rw [hp] at hnot
      cases hnot
    · rcases List.mem_cons.1 hm with rfl | hm
      · rfl
      · have hlt : e.1 < n := by
          rw [tableRising_iff, hsplit] at h
          exact (List.pairwise_cons.1 (List.pairwise_append.1 h).2.1).1 _ hm
        cases hslot.symm.trans (hleast e.1 hlt (above_iff.1 he))

theorem slotAbove_eq_none (h : tableRising s.roster.slots = true) {cursor : Option Nat}
    (hnone : ∀ m, (∀ c, cursor = some c → c < m) → s.recordAt m = none) : s.slotAbove cursor = none := by
  rw [slotAbove_eq]
  refine List.find?_eq_none.2 fun e he hp => ?_
  have hslot : s.recordAt e.1 = some e.2 := tableGet_of_mem h he
  have habove : ∀ c, cursor = some c → c < e.1 := above_iff.1 hp
  cases hslot.symm.trans (hnone e.1 habove)

end

/-- Settles O34: the laws of the Meter Index for the lookup, and the order of the slots for READ NEXT. -/
theorem recordsAreFoundAndRead : Obligations.RecordsAreFoundAndRead := by
  refine ⟨fun s id slot h => lookup_iff h.roster, fun s id slot hs hslot => ?_⟩
  intro above
  have lookups {st data t} : commandLookup (beBytes 4 id.toNat) (carryFill (txCarrying (beBytes 4 id.toNat)) s)
      = reply st data (carryFill (txCarrying (beBytes 4 id.toNat)) t) → Answers .lookup (beBytes 4 id.toNat) s st data t :=
    answers_of_reply exec_lookup hs (beBytes_length 4 _) (by decide)
  have reads {st data t} : commandReadSlot (beBytes 2 slot) (carryFill (txCarrying (beBytes 2 slot)) s)
      = reply st data (carryFill (txCarrying (beBytes 2 slot)) t) → Answers .readSlot (beBytes 2 slot) s st data t :=
    answers_of_reply exec_readSlot hs (beBytes_length 2 _) (by decide)
  have nexts {st data t} : commandReadNext [] (carryFill (txCarrying []) s) = reply st data (carryFill (txCarrying []) t) →
      Answers .readNext [] s st data t :=
    answers_of_reply exec_readNext hs rfl (by decide)
  have hid : BitVec.ofNat 32 (fieldAt (beBytes 4 id.toNat) 0 4) = id := by simpa using fieldAt_word id []
  refine ⟨fun n r hn hr => lookups ?_, fun hn => lookups ?_, fun r hlt hr => reads ?_, fun hlt hr => reads ?_,
    fun hge => reads ?_, fun n r ht hr hn hleast => nexts ?_, fun ht hnone => nexts ?_⟩
  · unfold commandLookup
    rw [hid, show (carryFill _ s).lookup id = some n from hn]
    dsimp only
    rw [show (carryFill _ s).recordAt n = some r from hr]
    rfl
  · unfold commandLookup
    rw [hid, show (carryFill _ s).lookup id = none from hn]
  · unfold commandReadSlot
    rw [fieldAt_entryNumber hslot]
    refine (if_pos hlt).trans ?_
    dsimp only
    rw [show State.recordAt { carryFill _ s with port.cursor := some slot } slot = some r from hr]
    rfl
  · unfold commandReadSlot
    rw [fieldAt_entryNumber hslot]
    refine (if_pos hlt).trans ?_
    dsimp only
    rw [show State.recordAt { carryFill _ s with port.cursor := some slot } slot = none from hr]
    rfl
  · unfold commandReadSlot
    rw [fieldAt_entryNumber hslot]
    exact if_neg (Nat.not_lt.2 hge)
  · unfold commandReadNext
    rw [show (carryFill _ s).slotAbove (carryFill _ s).port.cursor = some (n, r) from slotAbove_eq_some ht.1 hr hn hleast]
    rfl
  · unfold commandReadNext
    rw [show (carryFill _ s).slotAbove (carryFill _ s).port.cursor = none from slotAbove_eq_none ht.1 hnone]

end Sys2Proof.Machine

/-! PROOFS. The upload record image and the record view (R173, R19, R208). -/

namespace Sys2Proof.Machine

/-! ## Bytes and bits of a layout -/

/-- A byte behind the first bytes of a layout is the byte of what follows them. -/
theorem byteAt_append (pre rest : List Byte) (off : Nat) (h : pre.length ≤ off) :
    byteAt (pre ++ rest) off = byteAt rest (off - pre.length) := by
  rw [byteAt, byteAt, List.getD_append_right _ _ _ _ h]

theorem byteAt_head (b : Byte) (rest : List Byte) : byteAt ([b] ++ rest) 0 = b := rfl

theorem byteAt_singleton (b : Byte) : byteAt [b] 0 = b := rfl

/-- A field that ends its layout. -/
theorem fieldAt_whole (w n : Nat) : fieldAt (beBytes w n) 0 w = n % 256 ^ w := by
  simpa using fieldAt_head w n []

/-- The byte of the kind and the state in the image. -/
theorem kindByte_bits (k : Kind) (st : RecState) :
    let b := BitVec.ofNat 8 (k.code * 64 + st.code * 8 + bitIf (st = .flagged) 2)
    bitsOf b 7 6 = k.code ∧ bitsOf b 5 3 = st.code ∧ (b.getLsbD 2 = true ↔ st = .flagged) := by
  cases k <;> cases st <;> decide

/-- The byte of the marks, the channel and the class in the image. -/
theorem marksByte_bits (a b c d : Bool) (ch cls : Fin 4) :
    let v := BitVec.ofNat 8 (bitIf a 7 + bitIf b 6 + bitIf c 5 + ch.val * 8 + bitIf d 2 + cls.val)
    v.getLsbD 7 = a ∧ v.getLsbD 6 = b ∧ v.getLsbD 5 = c ∧ bitsOf v 4 3 = ch.val ∧ v.getLsbD 2 = d ∧ bitsOf v 1 0 = cls.val := by
  revert a b c d ch cls
  decide

/-- The byte of the eval state and the marks in the view. -/
theorem evalByte_bits (e : EvalState) (a b c : Bool) :
    let v := BitVec.ofNat 8 (e.code + bitIf a 2 + bitIf b 3 + bitIf c 4)
    bitsOf v 1 0 = e.code ∧ v.getLsbD 2 = a ∧ v.getLsbD 3 = b ∧ v.getLsbD 4 = c := by
  cases e <;> revert a b c <;> decide

/-! ## The fields of the image and the view -/

section
variable (r : Record)

theorem image_fields :
    fieldAt r.image 0 4 = r.meterId.toNat % 256 ^ 4
    ∧ fieldAt r.image 6 4 = ((r.reading.map (fun x => x.value)).getD 0) % 256 ^ 4
    ∧ fieldAt r.image 11 3 = ((r.reading.map (fun x => x.tRead)).getD 0) % 256 ^ 3
    ∧ fieldAt r.image 14 1 = r.latched.toNat % 256 ^ 1
    ∧ fieldAt r.image 15 1 = r.hearCount % 256 ^ 1
    ∧ fieldAt r.image 16 1 = ((r.signal.map (fun x => x.best)).getD 0) % 256 ^ 1
    ∧ fieldAt r.image 17 1 = ((r.signal.map (fun x => x.smoothed)).getD 0) % 256 ^ 1
    ∧ fieldAt r.image 18 4 = ((r.result.map (fun x => x.delta)).getD 0) % 256 ^ 4
    ∧ fieldAt r.image 22 2 = ((r.result.map (fun x => x.rate)).getD 0) % 256 ^ 2
    ∧ fieldAt r.image 24 2 = ((r.result.map (fun x => x.causes.toNat)).getD 0) % 256 ^ 2
    ∧ fieldAt r.image 26 1 = ((r.result.map (fun x => x.score)).getD 0) % 256 ^ 1 := by
  simp only [Record.image, List.append_assoc]
  refine ⟨?_, ?_, ?_, ?_, ?_, ?_, ?_, ?_, ?_, ?_, ?_⟩ <;>
    simp (disch := simp) only [fieldAt_append, beBytes_length, List.length_cons, List.length_nil, fieldAt_head, Nat.reduceAdd, Nat.reduceSub]

theorem image_bytes :
    byteAt r.image 4 = BitVec.ofNat 8 (r.kind.code * 64 + r.state.code * 8 + bitIf (r.state = .flagged) 2)
    ∧ byteAt r.image 5 = BitVec.ofNat 8 (bitIf r.reading.isSome 7 + bitIf r.signal.isSome 6 + bitIf r.result.isSome 5
        + ((r.reading.map (fun x => x.channel.val)).getD 0) * 8
        + bitIf ((r.result.map (fun x => x.rollover)).getD false) 2
        + (r.result.map (fun x => x.cls.code)).getD 0)
    ∧ byteAt r.image 10 = BitVec.ofNat 8 ((r.reading.map (fun x => x.seq.toNat)).getD 0)
    ∧ byteAt r.image 27 = r.generation := by
  simp only [Record.image, List.append_assoc, beBytes_one]
  refine ⟨?_, ?_, ?_, ?_⟩ <;>
    simp (disch := simp) only [byteAt_append, beBytes_length, List.length_cons, List.length_nil, Nat.reduceAdd, Nat.reduceSub,
      byteAt_head, byteAt_singleton]

theorem view_fields (slot : Nat) :
    fieldAt (r.view slot) 0 2 = slot % 256 ^ 2
    ∧ ((r.view slot).drop 2).take 28 = r.image
    ∧ fieldAt (r.view slot) 30 1 = r.profile % 256 ^ 1
    ∧ fieldAt (r.view slot) 31 2 = r.segment % 256 ^ 2
    ∧ fieldAt (r.view slot) 33 4 = r.baseline % 256 ^ 4
    ∧ fieldAt (r.view slot) 37 2 = r.baselineAge % 256 ^ 2
    ∧ fieldAt (r.view slot) 39 2 = r.bandLow % 256 ^ 2
    ∧ fieldAt (r.view slot) 41 2 = r.bandHigh % 256 ^ 2
    ∧ byteAt (r.view slot) 43 = BitVec.ofNat 8 (r.eval.code + bitIf r.reviewedCauses.isSome 2 + bitIf r.upload.isCarried 3
        + bitIf r.upload.isSuperseded 4)
    ∧ byteAt (r.view slot) 44 = r.upload.blockCode
    ∧ fieldAt (r.view slot) 45 2 = ((r.reviewedCauses.map (fun c => c.toNat)).getD 0) % 256 ^ 2 := by
  have hlen : r.image.length = 28 := image_length r
  have htake : ((r.view slot).drop 2).take 28 = r.image := by
    simp only [Record.view, List.append_assoc]
    rw [List.drop_append_of_le_length (by simp), List.drop_eq_nil_of_le (by simp), List.nil_append,
      List.take_append_of_le_length (by simp [hlen]), List.take_of_length_le (by simp [hlen])]
  refine ⟨?_, htake, ?_, ?_, ?_, ?_, ?_, ?_, ?_, ?_, ?_⟩ <;> simp only [Record.view, List.append_assoc] <;>
    simp (disch := simp [hlen]) only [fieldAt_append, byteAt_append, hlen, beBytes_length, List.length_cons, List.length_nil,
      fieldAt_head, Nat.reduceAdd, Nat.reduceSub, byteAt_head, fieldAt_whole]

end

theorem Class.code_lt (c : Class) : c.code < 4 := by cases c <;> decide

/-- Settles O35, field by field: every field is in the range of its width. -/
theorem recordImageCarriesTheRecord : Obligations.RecordImageCarriesTheRecord := by
  intro r slot m hslot hm hr
  obtain ⟨-, -, hprofile, hsegment, hbase, hage, hband, hhigh, hhear, hreading, hsignal, hresult⟩ := hr
  obtain ⟨fid, fvalue, ftime, flatched, fhear, fbest, fsmooth, fdelta, frate, fcauses, fscore⟩ := image_fields r
  obtain ⟨b4, b5, b10, b27⟩ := image_bytes r
  obtain ⟨vslot, vimage, vprofile, vsegment, vbase, vage, vlow, vhigh, v43, v44, vreviewed⟩ := view_fields r slot
  obtain ⟨k76, k53, k2⟩ := kindByte_bits r.kind r.state
  obtain ⟨e10, e2, e3, e4⟩ := evalByte_bits r.eval r.reviewedCauses.isSome r.upload.isCarried r.upload.isSuperseded
  have hmarks := marksByte_bits r.reading.isSome r.signal.isSome r.result.isSome ((r.result.map (fun x => x.rollover)).getD false)
    ((r.reading.map Reading.channel).getD 0) ((r.result.map (fun x : Result => ⟨x.cls.code, x.cls.code_lt⟩)).getD 0)
  have hchannel : ((r.reading.map Reading.channel).getD 0).val = (r.reading.map (fun x => x.channel.val)).getD 0 := by
    cases r.reading <;> rfl
  have hcls : ((r.result.map (fun x => (⟨x.cls.code, x.cls.code_lt⟩ : Fin 4))).getD 0).val = (r.result.map (fun x => x.cls.code)).getD 0 := by
    cases r.result <;> rfl
  rw [hchannel, hcls, ← b5] at hmarks
  obtain ⟨m7, m6, m5, m43, m2, m10⟩ := hmarks
  rw [← b4] at k76 k53 k2
  rw [← v43] at e10 e2 e3 e4
  refine ⟨image_length r, r.view_length slot, ?_, vimage, ?_, k76, k53, k2, m7, m6, m5, fun x hx => ?_, fun hx => ?_, ?_, ?_,
    fun g hg => ?_, fun hg => ?_, fun x hx => ?_, fun hx => ?_, b27, ?_, ?_, ?_, ?_, ?_, ?_, e10, e2, e3, e4, v44, ?_⟩
  · rw [vslot]; omega
  · rw [fid]; have := r.meterId.isLt; omega
  · obtain ⟨hv, ht⟩ := hreading x hx
    rw [hx] at m43 fvalue b10 ftime
    simp only [Option.map_some, Option.getD_some] at m43 fvalue b10 ftime
    refine ⟨m43, ?_, ?_, ?_⟩
    · rw [fvalue]; omega
    · rw [b10, BitVec.ofNat_toNat, BitVec.setWidth_eq]
    · rw [ftime]; omega
  · rw [hx] at m43 fvalue b10 ftime
    exact ⟨m43, fvalue, b10, ftime⟩
  · rw [flatched]; have := r.latched.isLt; omega
  · rw [fhear]; omega
  · obtain ⟨hb, hs⟩ := hsignal g hg
    rw [fbest, fsmooth, hg]
    simp only [Option.map_some, Option.getD_some]
    omega
  · rw [fbest, fsmooth, hg]
    exact ⟨rfl, rfl⟩
  · obtain ⟨hd, hrate, hscore⟩ := hresult x hx
    have := x.causes.isLt
    rw [hx] at m2 m10 fdelta frate fcauses fscore
    simp only [Option.map_some, Option.getD_some] at m2 m10 fdelta frate fcauses fscore
    refine ⟨?_, ?_, ?_, ?_, m2, m10⟩
    · rw [fdelta]; omega
    · rw [frate]; omega
    · rw [fcauses]; omega
    · rw [fscore]; omega
  · rw [hx] at m2 m10 fdelta frate fcauses fscore
    exact ⟨fdelta, frate, fcauses, fscore, m2, m10⟩
  · rw [vprofile]; omega
  · rw [vsegment]; omega
  · rw [vbase]; omega
  · rw [vage]; omega
  · rw [vlow]; omega
  · rw [vhigh]; omega
  · rw [vreviewed]
    cases r.reviewedCauses with
    | none => rfl
    | some c => exact Nat.mod_eq_of_lt (c.isLt.trans (by decide))

end Sys2Proof.Machine

/-! PROOFS. The candidates and the load: INSERT, LOAD OPEN, LOAD RECORD and LOAD SEAL, with their twins of the depot (R14, R15,
R23, R29 to R36). -/

namespace Sys2Proof.Machine

variable {s : State}

/-! ## The tests of a candidate (R14) -/

theorem validate_eq (s : State) (im : LoadImage) :
    validate s im =
      if im.meterId = 0#32 ∨ im.meterId = 0xFFFFFFFF#32 then some .badId
      else if 15 < im.profile then some .badProfile
      else if 1023 < im.segment then some .badSegment
      else if 10 ^ (s.store.live.profileAt im.profile).digits ≤ im.baseline ∨ 4095 < im.baselineAge then some .badBaseline
      else if im.bandHigh < im.bandLow then some .badBand
      else if s.lookup im.meterId ≠ none then some .duplicateId
      else if 8192 ≤ s.rosterCount then some .rosterFull
      else if ∀ way : Fin 8, tableGet s.roster.index
          (8 * (((im.meterId ^^^ (im.meterId >>> 11) ^^^ (im.meterId >>> 22)).toNat) % 2048) + way) ≠ none then some .bucketFull
      else none := by
  have hlookup : ((s.lookup im.meterId).isSome = true) = (s.lookup im.meterId ≠ none) := by
    cases s.lookup im.meterId <;> simp
  have hways : ((freeWay s.roster.index (bucketOf im.meterId)).isNone = true) = (∀ way : Fin 8, tableGet s.roster.index
      (8 * (((im.meterId ^^^ (im.meterId >>> 11) ^^^ (im.meterId >>> 22)).toNat) % 2048) + way) ≠ none) := by
    rw [Option.isNone_iff_eq_none, freeWay_eq_none, bucketOf_eq, Fin.forall_iff]
  unfold validate
  simp only [hlookup, hways]
  rfl

/-! ## The creation (R15) -/

/-- A passing candidate is created, in the lowest free slot and the lowest empty way, and the rest of the part stands. -/
theorem createRecord_created (hro : s.roster.Sound) (hsegs : SegmentsSound s.seg s.route.state s.roster.slots) {im : LoadImage}
    (hv : validate s im = none) :
    Created im s.freeSlot s (createRecord im s)
    ∧ createRecord im s = { s with
        roster := (createRecord im s).roster, seg := (createRecord im s).seg, port.causes := (createRecord im s).port.causes } := by
  obtain ⟨-, -, hseg, -, -, -, -, -, way, hway⟩ := validate_none hv
  obtain ⟨hsound, hfree, hslot⟩ := hro.create hv
  obtain ⟨-, hlower⟩ := freeSlot_spec hro.rising
  obtain ⟨hway8, hempty, hbelow⟩ := freeWay_some hway
  have hn : im.segment < 1024 := Nat.lt_succ_of_le hseg
  obtain ⟨hframe, hentry, hothers⟩ := segGain_gains (n := im.segment) (r := im.newRecord) (s := withCandidate im s)
    (hsegs.read_le hn) (hsegs.no_deadline hn)
  have hget (k : Nat) : (withCandidate im s).recordAt k = if k = s.freeSlot then some im.newRecord else s.recordAt k :=
    tableGet_put _ _ _ _
  have hlookup := (lookup_iff hsound (id := im.meterId)).2 ⟨im.newRecord, (hget s.freeSlot).trans (if_pos rfl), rfl⟩
  rw [createRecord_eq]
  generalize segGain im.segment im.newRecord (withCandidate im s) = t at hframe hentry hothers ⊢
  have hroster : t.roster = (withCandidate im s).roster := by rw [hframe]
  have hrecord (k : Nat) : t.recordAt k = (withCandidate im s).recordAt k := by rw [State.recordAt, hroster]; rfl
  have hgained : (s.segAt im.segment).missesWith (s.seg.applied.covers im.segment) .expected
      ↔ (s.segAt im.segment).afterGain (s.seg.applied.covers im.segment) = .missed ∧ (s.segAt im.segment).state ≠ .missed :=
    ⟨fun ⟨_, hx⟩ => hx, fun hx => ⟨rfl, hx⟩⟩
  refine ⟨⟨hslot, hfree, hlower, ?_, fun n hn => ?_, ⟨way, hway8, ?_, ?_, fun k => ?_⟩, ?_, ?_, hothers, ?_, ?_, ?_, ?_⟩, ?_⟩
  · rw [hrecord, hget, if_pos rfl]
    rfl
  · rw [hrecord, hget, if_neg hn]
  · rw [← bucketOf_eq]
    exact hempty
  · rw [← bucketOf_eq]
    exact hbelow
  · rw [hroster, withCandidate, hway, ← bucketOf_eq]
    exact tableGet_put _ _ _ _
  · rw [hframe]
    exact hlookup
  · exact hentry
  · rw [hframe]
    exact if_congr hgained rfl rfl
  · rw [hframe]
    rfl
  · rw [hframe]
    rfl
  · rw [hframe]
    exact if_congr hgained rfl rfl
  · rw [hframe]
    rfl

theorem exec_insert (tx : Tx) (s : State) : exec (.insert tx) s = command 0x23#8 17 commandInsert tx s := rfl

/-- Settles O36: the chain of R14, and the creation in the lowest free slot and way. -/
theorem candidatesAreInserted : Obligations.CandidatesAreInserted := by
  refine ⟨fun s im => validate_eq s im, fun s args hs hlen => ?_⟩
  have inserts {st data t} : commandInsert args (carryFill (txCarrying args) s)
      = reply st data (carryFill (txCarrying args) t) → Answers .insert args s st data t :=
    answers_of_reply exec_insert hs hlen (by decide)
  have hedits (hr : s.route.state = .ready ∨ s.route.state = .active) : s.route.state.editable = true := editable_iff.2 hr
  refine ⟨fun hr ha => inserts (if_neg fun he => (editable_iff.1 he).elim hr ha), fun why hr hv => inserts ?_,
    fun h hr hv => ?_⟩
  · refine (if_pos (hedits hr)).trans ?_
    rw [show validate (carryFill _ s) (loadImageOf args) = some why from hv]
  · obtain ⟨hcreated, hframe⟩ := createRecord_created (s := carryFill (txCarrying args) s) h.sound.roster h.sound.segments hv
    refine ⟨s.freeSlot, { s with
      roster := (createRecord (loadImageOf args) (carryFill (txCarrying args) s)).roster
      seg := (createRecord (loadImageOf args) (carryFill (txCarrying args) s)).seg
      port.causes := (createRecord (loadImageOf args) (carryFill (txCarrying args) s)).port.causes }, inserts ?_, hcreated, rfl⟩
    refine (if_pos (hedits hr)).trans ?_
    rw [show validate (carryFill _ s) (loadImageOf args) = none from hv]
    exact congrArg (reply .ok _) hframe

/-! ## A message in LOCKED (R154, R158) -/

/-- In LOCKED a message refreshes the link and reaches its owner. -/
theorem messageArrival_locked (hl : s.link.state = .locked) (act : State → State) : messageArrival act s = act s.heard := by
  unfold messageArrival refresh
  rw [hl]
  rfl

/-! ## The opening of a load (R30) -/

theorem openRefusal_eq (manifest : List Byte) (s : State) :
    openRefusal manifest s
      = if s.route.state ≠ .empty then some .notEmpty
        else if fieldAt manifest 4 2 = 0 ∨ 8192 < fieldAt manifest 4 2 then some .rosterFull
        else none := rfl

theorem manifest_fields (id check : Word) {count : Nat} (h : count < 65536) :
    let m := beBytes 4 id.toNat ++ beBytes 2 count ++ beBytes 4 check.toNat
    BitVec.ofNat 32 (fieldAt m 0 4) = id ∧ fieldAt m 4 2 = count ∧ BitVec.ofNat 32 (fieldAt m 6 4) = check := by
  intro m
  have hm : m = beBytes 4 id.toNat ++ (beBytes 2 count ++ beBytes 4 check.toNat) := List.append_assoc _ _ _
  have hcheck : fieldAt m 6 4 = fieldAt (beBytes 4 check.toNat) 0 4 := by
    rw [hm, fieldAt_append _ _ _ _ (by simp), fieldAt_append _ _ _ _ (by simp)]
    simp
  refine ⟨?_, ?_, ?_⟩
  · rw [hm]
    exact fieldAt_word id _
  · rw [hm, fieldAt_append _ _ _ _ (by simp), beBytes_length]
    exact fieldAt_slot h _
  · rw [hcheck]
    simpa using fieldAt_word check []

theorem exec_loadOpen (tx : Tx) (s : State) : exec (.loadOpen tx) s = command 0x10#8 10 commandLoadOpen tx s := rfl

/-- Settles O40: the two checks, and the opened load. -/
theorem loadIsOpened : Obligations.LoadIsOpened := by
  intro s id check count hcount m opened
  have hlen : m.length = 10 := by simp [m]
  obtain ⟨hid, hcnt, hcheck⟩ := manifest_fields id check hcount
  have hopen (owner : Owner) : (openLoad owner m s).route = opened owner := by
    simp only [openLoad, m, hid, hcnt, hcheck, opened]
  have hrefusal : openRefusal m s
      = if s.route.state ≠ .empty then some .notEmpty else if count = 0 ∨ 8192 < count then some .rosterFull else none := by
    rw [openRefusal_eq, hcnt]
  have hnot : s.route.state ≠ .empty → openRefusal m s = some .notEmpty := fun hr => by rw [hrefusal, if_pos hr]
  have hfull : s.route.state = .empty → (count = 0 ∨ 8192 < count) → openRefusal m s = some .rosterFull := fun hr hc => by
    rw [hrefusal, if_neg (not_not.2 hr), if_pos hc]
  have hnone : s.route.state = .empty → 1 ≤ count → count ≤ 8192 → openRefusal m s = none := fun hr hlow hhigh => by
    rw [hrefusal, if_neg (not_not.2 hr), if_neg (by omega)]
  refine ⟨fun hs => ?_, fun hl => ?_⟩
  · have opens {st data t} : commandLoadOpen m (carryFill (txCarrying m) s) = reply st data (carryFill (txCarrying m) t) →
        Answers .loadOpen m s st data t := answers_of_reply exec_loadOpen hs hlen (by decide)
    have hrefuse {why} (h : openRefusal m s = some why) : Answers .loadOpen m s why [] s := opens (by
      rw [commandLoadOpen, show openRefusal m (carryFill _ s) = some why from h])
    refine ⟨fun hr => hrefuse (hnot hr), fun hr hc => hrefuse (hfull hr hc), fun hr hlow hhigh => opens ?_⟩
    rw [commandLoadOpen, show openRefusal m (carryFill _ s) = none from hnone hr hlow hhigh, ← hopen]
    rfl
  · have hexec : exec (.routeOpen m) s = .next (dockRouteOpen m s.heard) := by
      show execRouteOpen m s = _
      rw [execRouteOpen, if_pos hlen, messageArrival_locked hl]
    have hrefuse {why} (h : openRefusal m s = some why) : exec (.routeOpen m) s = .next (answerDepot why s.heard) := by
      rw [hexec, dockRouteOpen, show openRefusal m s.heard = some why from h]
    refine ⟨fun hr => hrefuse (hnot hr), fun hr hc => hrefuse (hfull hr hc), fun hr hlow hhigh => ?_⟩
    rw [hexec, dockRouteOpen, show openRefusal m s.heard = none from hnone hr hlow hhigh, ← hopen]
    rfl

/-! ## The records of a load (R31 to R34) -/

theorem loadRefusal_notLoading (party : Owner) (h : s.route.state ≠ .loading) : loadRefusal party s = some .wrongRouteState :=
  if_pos h

theorem loadRefusal_notOwner {party : Owner} (h : s.route.state = .loading) (ho : s.route.owner ≠ party) :
    loadRefusal party s = some .notOwner := by
  rw [loadRefusal, if_neg (not_not.2 h), if_pos ho]

theorem loadRefusal_eq_none {party : Owner} (h : s.route.state = .loading) (ho : s.route.owner = party) :
    loadRefusal party s = none := by
  rw [loadRefusal, if_neg (not_not.2 h), if_neg (not_not.2 ho)]

/-- A record of a load that is counted and folded, and rejected. -/
theorem takeLoadRecord_rejected {image : List Byte} {why : Status} (hv : validate s (loadImageOf image) = some why) :
    takeLoadRecord image s
      = ({ s with
          route := (s.route.receive image).reject
            { arrival := s.route.received, meterId := (loadImageOf image).meterId, reason := why } }, some why) := by
  unfold takeLoadRecord
  dsimp only
  rw [show validate { s with route := s.route.receive image } (loadImageOf image) = some why from hv]

theorem takeLoadRecord_created {image : List Byte} (hv : validate s (loadImageOf image) = none) :
    takeLoadRecord image s = (createRecord (loadImageOf image) { s with route := s.route.receive image }, none) := by
  unfold takeLoadRecord
  dsimp only
  rw [show validate { s with route := s.route.receive image } (loadImageOf image) = none from hv]

theorem receive_eq (r : Route) (image : List Byte) :
    r.receive image = { r with received := min 65535 (r.received + 1), running := crc32Fold r.running image } := by
  rw [Route.receive, satInc_eq_min]
  rfl

theorem reject_eq (r : Route) (entry : Reject) :
    r.reject entry = { r with
      rejects := min 65535 (r.rejects + 1)
      rejectList := if r.rejectList.length < 64 then r.rejectList ++ [entry] else r.rejectList } := by
  rw [Route.reject, satInc_eq_min]
  rfl

/-- The record of a load that passes is created, and the rest of the part stands but for the counts of the load. -/
theorem takeLoadRecord_creates (hro : s.roster.Sound) (hsegs : SegmentsSound s.seg s.route.state s.roster.slots)
    {image : List Byte} (hv : validate s (loadImageOf image) = none) :
    ∃ u, takeLoadRecord image s = (u, none) ∧ Created (loadImageOf image) s.freeSlot s u
      ∧ u = { s with
          roster := u.roster, seg := u.seg, port.causes := u.port.causes
          route := { s.route with received := min 65535 (s.route.received + 1), running := crc32Fold s.route.running image } } := by
  obtain ⟨hcreated, hframe⟩ := createRecord_created (s := { s with route := s.route.receive image }) hro hsegs hv
  refine ⟨_, takeLoadRecord_created hv, hcreated, hframe.trans ?_⟩
  rw [receive_eq]

theorem exec_loadRecord (tx : Tx) (s : State) : exec (.loadRecord tx) s = command 0x11#8 17 commandLoadRecord tx s := rfl

/-- Settles O41: the tests of the load and of the candidate, for both parties. -/
theorem loadRecordIsTaken : Obligations.LoadRecordIsTaken := by
  intro s image hlen im taken rejected
  have hrejected (why : Status) :
      (s.route.receive image).reject { arrival := s.route.received, meterId := im.meterId, reason := why } = rejected why := by
    rw [reject_eq, receive_eq]
  refine ⟨fun hs => ?_, fun hl => ?_⟩
  · have loads {st data t} : commandLoadRecord image (carryFill (txCarrying image) s)
        = reply st data (carryFill (txCarrying image) t) → Answers .loadRecord image s st data t :=
      answers_of_reply exec_loadRecord hs hlen (by decide)
    have hrefuse {why} (h : loadRefusal .commandPort s = some why) : Answers .loadRecord image s why [] s := loads (by
      rw [commandLoadRecord, show loadRefusal .commandPort (carryFill _ s) = some why from h])
    refine ⟨fun hr => hrefuse (loadRefusal_notLoading _ hr), fun hr ho => hrefuse (loadRefusal_notOwner hr ho),
      fun why _ hr ho hv => loads ?_, fun h hr ho hv => ?_⟩
    · rw [commandLoadRecord, show loadRefusal .commandPort (carryFill _ s) = none from loadRefusal_eq_none hr ho]
      dsimp only
      rw [takeLoadRecord_rejected (s := carryFill _ s) hv, ← hrejected]
      rfl
    · obtain ⟨u, hu, hcreated, hframe⟩ := takeLoadRecord_creates (s := carryFill (txCarrying image) s) h.sound.roster
        h.sound.segments hv
      refine ⟨s.freeSlot, { s with
        roster := u.roster, seg := u.seg, port.causes := u.port.causes, route := taken }, loads ?_, hcreated, rfl⟩
      rw [commandLoadRecord, show loadRefusal .commandPort (carryFill _ s) = none from loadRefusal_eq_none hr ho]
      dsimp only
      rw [hu]
      exact congrArg (reply .ok _) hframe
  · have hexec : exec (.routeRecord image) s = .next (dockRouteRecord image s.heard) := by
      show execRouteRecord image s = _
      rw [execRouteRecord, if_pos hlen, messageArrival_locked hl]
    have hrefuse {why} (h : loadRefusal .dock s = some why) :
        exec (.routeRecord image) s = .next (answerDepot why s.heard) := by
      rw [hexec, dockRouteRecord, show loadRefusal .dock s.heard = some why from h]
    have htaken (hr : s.route.state = .loading) (ho : s.route.owner = .dock) :
        exec (.routeRecord image) s = .next (takeLoadRecord image s.heard).1 := by
      rw [hexec, dockRouteRecord, show loadRefusal .dock s.heard = none from loadRefusal_eq_none hr ho]
    refine ⟨fun hr => hrefuse (loadRefusal_notLoading _ hr), fun hr ho => hrefuse (loadRefusal_notOwner hr ho),
      fun why _ hr ho hv => ?_, fun h hr ho hv => ?_⟩
    · rw [htaken hr ho, takeLoadRecord_rejected (s := s.heard) hv, ← hrejected]
      rfl
    · obtain ⟨u, hu, hcreated, hframe⟩ := takeLoadRecord_creates (s := s.heard) h.sound.roster h.sound.segments hv
      exact ⟨s.freeSlot, u, by rw [htaken hr ho, hu], hcreated, hframe⟩

/-! ## The seal of a load (R36) -/

theorem exec_loadSeal (tx : Tx) (s : State) : exec (.loadSeal tx) s = command 0x12#8 0 commandLoadSeal tx s := rfl

/-- Settles O42: the three tests decide the state of the route, for both parties. -/
theorem loadIsSealed : Obligations.LoadIsSealed := by
  intro s t1 t2 t3 st sealed
  have hbits : bitIf t1 0 + bitIf t2 1 + bitIf t3 2 = (if t1 then 1 else 0) + (if t2 then 2 else 0) + (if t3 then 4 else 0) := rfl
  refine ⟨fun hs => ?_, fun hl => ?_⟩
  · have seals {st data t} : commandLoadSeal [] (carryFill (txCarrying []) s) = reply st data (carryFill (txCarrying []) t) →
        Answers .loadSeal [] s st data t := answers_of_reply exec_loadSeal hs rfl (by decide)
    have hrefuse {why} (h : loadRefusal .commandPort s = some why) : Answers .loadSeal [] s why [] s := seals (by
      rw [commandLoadSeal, show loadRefusal .commandPort (carryFill _ s) = some why from h])
    refine ⟨fun hr => hrefuse (loadRefusal_notLoading _ hr), fun hr ho => hrefuse (loadRefusal_notOwner hr ho),
      fun hr ho => seals ?_⟩
    rw [commandLoadSeal, show loadRefusal .commandPort (carryFill _ s) = none from loadRefusal_eq_none hr ho, ← hbits]
    rfl
  · have hexec : exec .routeSeal s = .next (dockRouteSeal s.heard) := congrArg _ (messageArrival_locked hl _)
    have hrefuse {why} (h : loadRefusal .dock s = some why) : exec .routeSeal s = .next (answerDepot why s.heard) := by
      rw [hexec, dockRouteSeal, show loadRefusal .dock s.heard = some why from h]
    refine ⟨fun hr => hrefuse (loadRefusal_notLoading _ hr), fun hr ho => hrefuse (loadRefusal_notOwner hr ho), fun hr ho => ?_⟩
    rw [hexec, dockRouteSeal, show loadRefusal .dock s.heard = none from loadRefusal_eq_none hr ho]
    rfl

end Sys2Proof.Machine

/-! PROOFS. AMEND: its refusals in their order, and the move of a record from one segment to another (R24, R25, R125 to R130). -/

namespace Sys2Proof.Machine

variable {s : State}

/-! ## The refusals (R24) -/

theorem amendRefusal_eq (sel : Byte) (im : LoadImage) (r : Record) (s : State) :
    amendRefusal sel im r s
      = if r.upload.isCarried = true then some .inFlight
        else if s.route.state = .active ∧ (sel.getLsbD 0 ∨ sel.getLsbD 3 ∨ sel.getLsbD 4) then some .lockedField
        else if sel.getLsbD 1 = true ∧ 15 < im.profile then some .badProfile
        else if sel.getLsbD 2 = true ∧ 1023 < im.segment then some .badSegment
        else if 10 ^ (s.store.live.profileAt (amended sel im r).profile).digits ≤ (amended sel im r).baseline
            ∨ (sel.getLsbD 4 = true ∧ 4095 < im.baselineAge)
            ∨ ∃ x, r.reading = some x ∧ 10 ^ (s.store.live.profileAt (amended sel im r).profile).digits ≤ x.value
          then some .badBaseline
        else if sel.getLsbD 5 = true ∧ im.bandHigh < im.bandLow then some .badBand
        else none := by
  have hlock : ((sel.getLsbD 0 || sel.getLsbD 3 || sel.getLsbD 4) = true) = (sel.getLsbD 0 ∨ sel.getLsbD 3 ∨ sel.getLsbD 4) := by
    simp [or_assoc]
  have hvalue : ((r.reading.any fun x => decide (modulusOf (s.store.live.profileAt (amended sel im r).profile).digits ≤ x.value)) = true)
      = ∃ x, r.reading = some x ∧ 10 ^ (s.store.live.profileAt (amended sel im r).profile).digits ≤ x.value := by
    rw [any_iff]
    simp only [decide_eq_true_eq]
    rfl
  unfold amendRefusal
  simp only [hlock, hvalue]
  rfl

/-! ## The record of an AMEND that moves to another segment (R125 to R130) -/

/-- The entry of the segment that an amended record leaves. -/
def SegEntry.left (e : SegEntry) (r : Record) : SegEntry :=
  { e with
    members := e.members - 1
    read := e.read - if r.state = .expected then 0 else 1
    flagged := e.flagged - if r.state = .flagged then 1 else 0
    state := if e.members = 1 then .vacant
      else if r.state = .expected ∧ 1 < e.members ∧ e.read + 1 = e.members then .complete else e.state
    deadline := if e.members = 1 ∨ (r.state = .expected ∧ 1 < e.members ∧ e.read + 1 = e.members) then none else e.deadline }

/-- The entry of the segment that an amended record joins. -/
def SegEntry.joined (e : SegEntry) (covered : Bool) (st : RecState) : SegEntry :=
  { e with
    members := e.members + 1
    read := e.read + if st = .expected then 0 else 1
    flagged := e.flagged + if st = .flagged then 1 else 0
    state := e.gained covered st }

/-- A segment of an open route loses its last unread member, whether it is open or not. -/
theorem completesWithout_open {e : SegEntry} {r : Record} (h : e.state ≠ .closed) :
    e.completesWithout r ↔ r.state = .expected ∧ 1 < e.members ∧ e.read + 1 = e.members := by
  simp [SegEntry.completesWithout, h]

theorem vacates_open {e : SegEntry} (h : e.state ≠ .closed) : e.vacates ↔ e.members = 1 := by
  simp [SegEntry.vacates, h]

theorem without_left {e : SegEntry} {r : Record} (h : e.state ≠ .closed) :
    { e.without r with
      state := if e.vacates then .vacant else if e.completesWithout r then .complete else e.state
      deadline := if e.vacates ∨ e.completesWithout r then none else e.deadline } = e.left r := by
  simp only [SegEntry.without, SegEntry.left, vacates_open h, completesWithout_open h]
  congr 1
  · split <;> rfl
  · split <;> rfl

theorem plus_joined (e : SegEntry) (covered : Bool) (st : RecState) :
    { e.plus st with state := e.gained covered st } = e.joined covered st := by
  simp only [SegEntry.plus, SegEntry.joined]
  congr 1
  · split <;> rfl
  · split <;> rfl

/-- The fields of the segments, the causes and the pulse that follow the loss of one segment's member and another's gain. -/
structure MovedTo (n m : Nat) (r : Record) (s t : State) : Prop where
  frame  : t = { s with
    seg := { s.seg with
      table := t.seg.table
      revisit := (if (s.segAt n).vacates ∨ (s.segAt n).completesWithout r then s.seg.revisit.filter (fun k => k != n)
          else s.seg.revisit)
        ++ (if (s.segAt m).missesWith (s.seg.applied.covers m) r.state then [m] else []) }
    port.causes := s.port.causes ||| (if (s.segAt n).completesWithout r then attSegmentComplete else 0#8)
      ||| (if (s.segAt m).missesWith (s.seg.applied.covers m) r.state then attSegmentMissed else 0#8)
    lines.pulse := if (s.segAt n).completesWithout r then 5 else s.lines.pulse }
  source : t.segAt n = { (s.segAt n).without r with
    state := if (s.segAt n).vacates then .vacant else if (s.segAt n).completesWithout r then .complete else (s.segAt n).state
    deadline := if (s.segAt n).vacates ∨ (s.segAt n).completesWithout r then none else (s.segAt n).deadline }
  target : t.segAt m = { (s.segAt m).plus r.state with state := (s.segAt m).gained (s.seg.applied.covers m) r.state }
  others : ∀ k, k ≠ n → k ≠ m → t.segAt k = s.segAt k

/-- A loss in one segment and a gain in another. -/
theorem movedTo_of_lost_gained {n m : Nat} {r : Record} {s u t : State} (hne : m ≠ n) (hlost : SegmentLost n r s u)
    (hgain : SegmentGained m r.state u t) : MovedTo n m r s t := by
  obtain ⟨hframe, hsource, hkept⟩ := hlost
  obtain ⟨hframe', htarget, hkept'⟩ := hgain
  have happlied : u.seg.applied = s.seg.applied := by rw [hframe]
  rw [hkept m hne, happlied] at htarget
  refine ⟨?_, (hkept' n hne.symm).trans hsource, htarget, fun k hn hm => (hkept' k hm).trans (hkept k hn)⟩
  rw [hkept m hne, happlied] at hframe'
  refine hframe'.trans ?_
  rw [hframe]
  dsimp only
  congr 2
  · split <;> simp
  · split <;> split <;> simp

/-- The frame of a move out of a segment of an open route. -/
theorem MovedTo.frame_open {n m : Nat} {r : Record} {s t : State} (h : MovedTo n m r s t) (ho : (s.segAt n).state ≠ .closed) :
    t = { s with
      seg := { s.seg with
        table := t.seg.table
        revisit := (if (s.segAt n).members = 1 ∨ (r.state = .expected ∧ 1 < (s.segAt n).members
            ∧ (s.segAt n).read + 1 = (s.segAt n).members) then s.seg.revisit.filter (fun k => k != n) else s.seg.revisit)
          ++ (if (s.segAt m).missesWith (s.seg.applied.covers m) r.state then [m] else []) }
      port.causes := s.port.causes ||| (if r.state = .expected ∧ 1 < (s.segAt n).members
          ∧ (s.segAt n).read + 1 = (s.segAt n).members then attSegmentComplete else 0#8)
        ||| (if (s.segAt m).missesWith (s.seg.applied.covers m) r.state then attSegmentMissed else 0#8)
      lines.pulse := if r.state = .expected ∧ 1 < (s.segAt n).members ∧ (s.segAt n).read + 1 = (s.segAt n).members then 5
        else s.lines.pulse } := by
  have hframe := h.frame
  simp only [vacates_open ho, completesWithout_open ho] at hframe
  exact hframe

theorem amendRecord_moved (h : s.Live []) {slot : Nat} {sel : Byte}
    {im : LoadImage} {r : Record} (hr : s.recordAt slot = some r) (hv : amendRefusal sel im r s = none)
    (hmoved : (amended sel im r).segment ≠ r.segment) :
    MovedTo r.segment (amended sel im r).segment r (amendWritten slot sel im r s) (amendRecord slot sel im r s) := by
  obtain ⟨-, -, -, hseg, -⟩ := amendRefusal_none hv
  have hm : (amended sel im r).segment < 1024 := by
    show (if sel.getLsbD 2 = true then im.segment else r.segment) < 1024
    split
    · rename_i h2
      exact Nat.lt_succ_of_le (hseg h2)
    · exact Nat.lt_succ_of_le (h.records.each slot r hr).inRange.2.2.2.1
  have hlost := segLose_settles (s := amendWritten slot sel im r s) (h.counts_record hr)
  have hkept := hlost.2.2 _ hmoved
  rw [amendRecord_eq, if_neg hmoved]
  refine movedTo_of_lost_gained hmoved hlost (segGain_gains ?_ ?_) <;> rw [hkept]
  · exact h.segments.read_le hm
  · exact h.segments.no_deadline hm

/-- What an AMEND of a slot leaves, whether the record moves or not. -/
theorem amendRecord_written (h : s.Live []) {slot : Nat} {sel : Byte}
    {im : LoadImage} {r : Record} (hr : s.recordAt slot = some r) (hv : amendRefusal sel im r s = none) :
    (amendRecord slot sel im r s).roster = (amendWritten slot sel im r s).roster
    ∧ (amendRecord slot sel im r s).eval = (amendWritten slot sel im r s).eval
    ∧ amendRecord slot sel im r s = { s with
        roster := (amendRecord slot sel im r s).roster, eval := (amendRecord slot sel im r s).eval
        seg := (amendRecord slot sel im r s).seg, port.causes := (amendRecord slot sel im r s).port.causes
        lines := (amendRecord slot sel im r s).lines } := by
  by_cases hsame : (amended sel im r).segment = r.segment
  · rw [amendRecord_eq, if_pos hsame]
    exact ⟨rfl, rfl, rfl⟩
  · have hframe := (amendRecord_moved h hr hv hsame).frame
    generalize amendRecord slot sel im r s = u at hframe ⊢
    rw [hframe]
    exact ⟨rfl, rfl, rfl⟩

theorem exec_amend (tx : Tx) (s : State) : exec (.amend tx) s = command 0x24#8 20 commandAmend tx s := rfl

/-- The arguments of an AMEND read back. -/
theorem amendArgs_fields {slot : Nat} (hslot : slot < 65536) (sel : Byte) (image : List Byte) :
    let args := beBytes 2 slot ++ [sel] ++ image
    fieldAt args 0 2 = slot ∧ byteAt args 2 = sel ∧ args.drop 3 = image := by
  intro args
  have hargs : args = beBytes 2 slot ++ ([sel] ++ image) := List.append_assoc _ _ _
  refine ⟨?_, ?_, ?_⟩
  · rw [hargs]
    exact fieldAt_slot hslot _
  · rw [hargs, byteAt_append _ _ _ (by simp), beBytes_length]
    rfl
  · exact List.drop_left' (by simp)

section
variable {args image : List Byte} {slot : Nat} {sel : Byte} {r : Record}

theorem commandAmend_notEditable (h : ¬ (s.route.state = .ready ∨ s.route.state = .active)) :
    commandAmend args s = reply .wrongRouteState [] s :=
  if_neg fun he => h (editable_iff.1 he)

theorem commandAmend_notFound (hargs : fieldAt args 0 2 = slot ∧ byteAt args 2 = sel ∧ args.drop 3 = image)
    (h : s.route.state = .ready ∨ s.route.state = .active) (hn : s.named slot (loadImageOf image).meterId = none) :
    commandAmend args s = reply .notFound [] s := by
  obtain ⟨h0, h2, h3⟩ := hargs
  unfold commandAmend
  rw [h0, h2, h3, if_pos (editable_iff.2 h), hn]

theorem commandAmend_refused (hargs : fieldAt args 0 2 = slot ∧ byteAt args 2 = sel ∧ args.drop 3 = image)
    (h : s.route.state = .ready ∨ s.route.state = .active) (hn : s.named slot (loadImageOf image).meterId = some r) {why : Status}
    (hv : amendRefusal sel (loadImageOf image) r s = some why) : commandAmend args s = reply why [] s := by
  obtain ⟨h0, h2, h3⟩ := hargs
  unfold commandAmend
  rw [h0, h2, h3, if_pos (editable_iff.2 h), hn]
  dsimp only
  rw [hv]

theorem commandAmend_ok (hargs : fieldAt args 0 2 = slot ∧ byteAt args 2 = sel ∧ args.drop 3 = image)
    (h : s.route.state = .ready ∨ s.route.state = .active) (hn : s.named slot (loadImageOf image).meterId = some r)
    (hv : amendRefusal sel (loadImageOf image) r s = none) :
    commandAmend args s = reply .ok ((amendRecord slot sel (loadImageOf image) r s).viewOf slot)
      (amendRecord slot sel (loadImageOf image) r s) := by
  obtain ⟨h0, h2, h3⟩ := hargs
  unfold commandAmend
  rw [h0, h2, h3, if_pos (editable_iff.2 h), hn]
  dsimp only
  rw [hv]

end

/-- Settles O37: the refusals, the amended record, and its move. -/
theorem amendWritesTheSelection : Obligations.AmendWritesTheSelection := by
  intro s slot sel image r hs hslot hlen args im edit r1 m named locked badProfile badSegment badBaseline badBand bumps asks
  have hargs := amendArgs_fields hslot sel image
  have amends {st data t} : commandAmend args (carryFill (txCarrying args) s) = reply st data (carryFill (txCarrying args) t) →
      Answers .amend args s st data t := answers_of_reply exec_amend hs (by simp [args, hlen]) (by decide)
  have hrefusal := amendRefusal_eq sel im r s
  have hrefused {why : Status} (he : edit) (hn : named) (hv : amendRefusal sel im r s = some why) :
      Answers .amend args s why [] s := amends (commandAmend_refused (s := carryFill _ s) hargs he (named_iff.2 hn) hv)
  refine ⟨fun he => amends (commandAmend_notEditable he), fun he hn => amends (commandAmend_notFound hargs he (named_eq_none_iff.2 hn)),
    fun he hn hc => hrefused he hn ?_, fun he hn hc hl => hrefused he hn ?_, fun he hn hc hl hp => hrefused he hn ?_,
    fun he hn hc hl hp hg => hrefused he hn ?_, fun he hn hc hl hp hg hb => hrefused he hn ?_,
    fun he hn hc hl hp hg hb hd => hrefused he hn ?_, fun hlaws he hn hc hl hp hg hb hd => ?_⟩
  · rw [hrefusal, if_pos hc]
  · rw [hrefusal, if_neg (by simp [hc]), if_pos hl]
  · rw [hrefusal, if_neg (by simp [hc]), if_neg hl, if_pos hp]
  · rw [hrefusal, if_neg (by simp [hc]), if_neg hl, if_neg hp, if_pos hg]
  · rw [hrefusal, if_neg (by simp [hc]), if_neg hl, if_neg hp, if_neg hg]
    exact if_pos hb
  · rw [hrefusal, if_neg (by simp [hc]), if_neg hl, if_neg hp, if_neg hg]
    exact (if_neg hb).trans (if_pos hd)
  · intro r2 a b isRead isFlagged vacated completed gained missed
    have hv : amendRefusal sel im r s = none := by
      rw [hrefusal, if_neg (by simp [hc]), if_neg hl, if_neg hp, if_neg hg]
      exact (if_neg hb).trans (if_neg hd)
    have hr := hn.2.1
    have hlive := (hlaws.live hs).carryFill (txCarrying args)
    have hbumps : (amendBumps sel = true) = bumps := by simp [amendBumps, bumps]
    have hr2 : amendedRecord sel im r = r2 := by
      simp only [amendedRecord, amendAsks, hbumps]
      rfl
    have hasks : amendAsks sel r = asks := by simp only [amendAsks, hbumps]; rfl
    obtain ⟨hroster, heval, hframe⟩ := amendRecord_written hlive hr hv
    have hmoved := amendRecord_moved hlive hr hv
    have hsame := amendRecord_eq slot sel im r (carryFill (txCarrying args) s)
    have hok := commandAmend_ok (s := carryFill (txCarrying args) s) hargs he (named_iff.2 hn) hv
    change commandAmend args _ = reply .ok ((amendRecord slot sel im r _).viewOf slot) (amendRecord slot sel im r _) at hok
    generalize amendRecord slot sel im r (carryFill (txCarrying args) s) = u at hroster heval hframe hmoved hsame hok
    have hget (k : Nat) : u.recordAt k = if k = slot then some r2 else s.recordAt k := by
      rw [← hr2, State.recordAt, hroster]
      exact recordAt_setRecord slot (amendedRecord sel im r) s k
    have hindex : u.roster.index = s.roster.index := by rw [hroster]; rfl
    have hview : u.viewOf slot = r2.view slot := by
      rw [State.viewOf, hget, if_pos rfl]
    rw [hview] at hok
    refine ⟨{ s with roster := u.roster, eval := u.eval, seg := u.seg, port.causes := u.port.causes, lines := u.lines },
      amends (hok.trans (congrArg (reply .ok _) hframe)), (hget slot).trans (if_pos rfl), fun n hn => (hget n).trans (if_neg hn),
      hindex, ?_, fun hs' => ?_, fun hne => ?_⟩
    · rw [show ({ s with roster := u.roster, eval := u.eval, seg := u.seg, port.causes := u.port.causes, lines := u.lines } : State).eval
        = _ from heval]
      simp only [amendWritten, hasks]
      rfl
    · have hu := hsame.trans (if_pos hs')
      rw [hu]
      rfl
    · have hsegs := (hlaws.live hs).segments
      have hopen : a.state ≠ .closed := fun hcl => by
        have hlt : r.segment < 1024 := Nat.lt_succ_of_le ((hlaws.live hs).records.each slot r hr).inRange.2.2.2.1
        have hfit := (hsegs.each _ hlt).fits (by rcases he with he | he <;> rw [he] <;> decide)
        have hcl : (entryIn s.seg.table r.segment).state = .closed := hcl
        rw [SegEntry.fits, hcl] at hfit
        exact hfit
      have hmove := hmoved hne
      have hf := hmove.frame_open hopen
      refine ⟨?_, hmove.source.trans (without_left hopen), hmove.target.trans (plus_joined b _ r.state), hmove.others⟩
      have hseg := congrArg State.seg hf
      have hcauses := congrArg (fun t : State => t.port.causes) hf
      have hlines := congrArg State.lines hf
      have hput {sg : Segments} {ca : BitVec 8} {li : Lines} (h1 : u.seg = sg) (h2 : u.port.causes = ca) (h3 : u.lines = li) :
          ({ s with roster := u.roster, eval := u.eval, seg := u.seg, port.causes := u.port.causes, lines := u.lines } : State)
            = { s with roster := u.roster, eval := u.eval, seg := sg, port.causes := ca, lines := li } := by
        rw [h1, h2, h3]
      exact hput hseg hcauses hlines

end Sys2Proof.Machine

/-! PROOFS. The route: ROUTE BEGIN, ROUTE CLOSE and ROUTE DISCARD, with CLOSE ROUTE and ROUTE ABORT of the depot (R39, R42, R44,
R45). -/

namespace Sys2Proof.Machine

variable {s : State}

/-! ## The begin and the close (R39, R42, R147, R148) -/

theorem exec_routeBegin (tx : Tx) (s : State) : exec (.routeBegin tx) s = command 0x14#8 0 commandRouteBegin tx s := rfl

theorem exec_routeClose (tx : Tx) (s : State) : exec (.routeClose tx) s = command 0x15#8 0 commandRouteClose tx s := rfl

/-- The close of an ACTIVE route, its records and its tables. -/
theorem closeRoute_frame (s : State) :
    closeRoute s = { s with
      route.state := .closed
      roster.slots := s.roster.slots.map (fun e =>
        (e.1, { e.2 with state := if e.2.state = .expected then .notRead else e.2.state }))
      seg := { table := (closeRoute s).seg.table } } := by
  have hslots : s.roster.slots.map (fun e => (e.1, e.2.close)) = s.roster.slots.map (fun e =>
      (e.1, { e.2 with state := if e.2.state = .expected then .notRead else e.2.state })) :=
    List.map_congr_left fun e _ => by rw [Record.close_eq]
  rw [← hslots]
  rfl

/-- Settles O43: the entries and the records of a route that begins or closes. -/
theorem routeBeginsAndCloses : Obligations.RouteBeginsAndCloses := by
  refine ⟨fun s hs => ?begins, fun s => ?closes⟩
  case begins =>
    have begins {st data t} : commandRouteBegin [] (carryFill (txCarrying []) s)
        = reply st data (carryFill (txCarrying []) t) → Answers .routeBegin [] s st data t :=
      answers_of_reply exec_routeBegin hs rfl (by decide)
    refine ⟨fun hr => begins (if_neg hr), fun hr ht => ⟨beginRoute s, begins (if_pos hr), rfl, fun n => ?_⟩⟩
    obtain ⟨-, -, -, -, hsegs, -⟩ := ht
    exact segAt_beginRoute hsegs n
  case closes =>
    intro closes
    refine ⟨fun hs => ?_, fun hl => ?_⟩
    · have ends {st data t} : commandRouteClose [] (carryFill (txCarrying []) s)
          = reply st data (carryFill (txCarrying []) t) → Answers .routeClose [] s st data t :=
        answers_of_reply exec_routeClose hs rfl (by decide)
      exact ⟨fun ha => ends (if_neg ha), fun h ha =>
        ⟨closeRoute s, ends (if_pos ha), closeRoute_frame s, fun n hn => segAt_closeRoute h.sound.segments hn⟩⟩
    · have hexec : exec .closeRoute s = .next (dockCloseRoute s.heard) := congrArg _ (messageArrival_locked hl _)
      refine ⟨fun ha => hexec.trans (congrArg _ (if_neg ha)), fun h ha =>
        ⟨closeRoute s.heard, hexec.trans (congrArg _ (if_pos ha)), closeRoute_frame s.heard, fun n hn => ?_⟩⟩
      exact segAt_closeRoute (s := s.heard) h.sound.segments hn

/-! ## The route thrown away (R44, R45, R17, R90, R182) -/

theorem exec_routeDiscard (tx : Tx) (s : State) : exec (.routeDiscard tx) s = command 0x16#8 0 commandRouteDiscard tx s := rfl

theorem blocksOut_eq_true : s.blocksOut = true ↔ s.upload.table ≠ [] := by
  rw [← Bool.not_eq_false, blocksOut_eq_false]

/-- The part with its route thrown away. -/
theorem discardRoute_eq (s : State) :
    discardRoute s = { s with
      roster := { slots := [], index := [] }
      eval := { running := s.eval.running.map (fun c => { c with departed := true }), queue := [] }
      chain := []
      route := { state := .empty, owner := .none, routeId := 0#32, count := 0, check := 0#32, received := 0, rejects := 0,
                 running := 0xFFFFFFFF#32, rejectList := [], clock := 0 }
      seg := { table := [], staged := {}, applied := {}, revisit := [] }
      upload.cursor := if s.upload.state = .passing then none else s.upload.cursor } := by
  have hpass : s.upload.passOver = { s.upload with cursor := if s.upload.state = .passing then none else s.upload.cursor } := by
    unfold Upload.passOver
    split <;> rfl
  show ({ s with
    roster := {}, eval := clearEval s.eval, chain := [], route := {}, seg := {}, upload := s.upload.passOver } : State) = _
  rw [hpass]
  rfl

/-- Settles O44: the checks of the two parties, and the route thrown away. -/
theorem routeIsThrownAway : Obligations.RouteIsThrownAway := by
  intro s bare
  refine ⟨fun hs => ?_, fun hl => ?_⟩
  · have discards {st data t} : commandRouteDiscard [] (carryFill (txCarrying []) s)
        = reply st data (carryFill (txCarrying []) t) → Answers .routeDiscard [] s st data t :=
      answers_of_reply exec_routeDiscard hs rfl (by decide)
    refine ⟨fun he => discards (if_pos he), fun he hb => discards ?_, fun he hb => discards ?_⟩
    · exact (if_neg he).trans (if_pos (blocksOut_eq_true.2 hb))
    · refine ((if_neg he).trans (if_neg ?_)).trans (congrArg (reply .ok []) (discardRoute_eq _))
      rw [Bool.not_eq_true]
      exact blocksOut_eq_false.2 hb
  · intro hostLoad
    have hexec : exec .routeAbort s = .next (dockRouteAbort s.heard) := congrArg _ (messageArrival_locked hl _)
    refine ⟨fun he => hexec.trans (congrArg _ (if_pos he)), fun ho => hexec.trans (congrArg _ ?_),
      fun he ho hb => hexec.trans (congrArg _ ?_), fun he ho hb => hexec.trans (congrArg _ ?_)⟩
    · have he : s.heard.route.state ≠ .empty := fun he => by cases he.symm.trans ho.1
      exact (if_neg he).trans (if_pos ho)
    · exact ((if_neg he).trans (if_neg ho)).trans (if_pos (blocksOut_eq_true.2 hb))
    · refine (((if_neg he).trans (if_neg ho)).trans (if_neg ?_)).trans (congrArg (answerDepot .ok) (discardRoute_eq _))
      rw [Bool.not_eq_true]
      exact blocksOut_eq_false.2 hb

end Sys2Proof.Machine

/-! PROOFS. The dock link: what it offers and sends, the lock, the link check, and the arrivals outside LOCKED (R152 to R163). -/

namespace Sys2Proof.Machine

variable {s : State}

/-! ## Arrivals in each link state (R152, R155, R158) -/

/-- In ACQUIRING a message clears the SYNC run. -/
theorem messageArrival_acquiring (hl : s.link.state = .acquiring) (act : State → State) :
    messageArrival act s = { s with link.syncRun := 0, link.receiver := .hunt } := by
  unfold messageArrival refresh
  rw [hl]
  rfl

/-- In CHECKING a message is a check error. -/
theorem messageArrival_checking (hl : s.link.state = .checking) (act : State → State) :
    messageArrival act s = { s.heard with link.errors := min 65535 (s.link.errors + 1) } := by
  unfold messageArrival refresh
  rw [hl]
  show countCheckError s.heard = _
  rw [countCheckError, satInc_eq_min]
  rfl

theorem unusableArrival_acquiring (hl : s.link.state = .acquiring) (typ : Byte) :
    unusableArrival typ s = { s with link.syncRun := 0, link.receiver := .hunt } := by
  unfold unusableArrival refresh
  rw [hl]
  rfl

theorem unusableArrival_locked (hl : s.link.state = .locked) (typ : Byte) : unusableArrival typ s = s.heard := by
  unfold unusableArrival refresh
  rw [hl]
  rfl

theorem unusableArrival_checking (hl : s.link.state = .checking) (typ : Byte) :
    unusableArrival typ s = { s.heard with link := { s.heard.link with
      errors := min 65535 (s.link.errors + 1)
      patterns := if typ = 0x1A#8 then min 65535 (s.link.patterns + 1) else s.link.patterns } } := by
  have herr (t : State) : countCheckError t = { t with link.errors := min 65535 (t.link.errors + 1) } := by
    rw [countCheckError, satInc_eq_min]
    rfl
  have hpat (t : State) : countPattern t = { t with link.patterns := min 65535 (t.link.patterns + 1) } := by
    rw [countPattern, satInc_eq_min]
    rfl
  unfold unusableArrival refresh
  rw [hl]
  simp only [herr, hpat]
  by_cases ht : typ = typCheckPattern
  · rw [if_pos ht, if_pos (show typ = 0x1A#8 from ht)]
    rfl
  · rw [if_neg ht, if_neg (show ¬ typ = 0x1A#8 from ht)]
    rfl

theorem min_top (n : Nat) : min 65535 (n + 1) = if n < 65535 then n + 1 else 65535 := (satInc_eq_min 65535 n).symm

/-! ## Frames offered (R159, R160, R29) -/

/-- Settles O45: the places of each kind, the LOAD STATUS, and the part SYNC. -/
theorem framesAreOffered : Obligations.FramesAreOffered := by
  refine ⟨⟨fun f s => ⟨fun h => if_pos h, fun h => if_neg (Nat.not_lt.2 h)⟩, fun st s => ⟨fun h => if_neg h, fun h => ?_⟩⟩,
    fun s => ⟨fun h => ?_, fun h hw => ?_, fun h hw => ?_⟩⟩
  · refine (if_pos h).trans ?_
    rw [loadStatusFrame, beBytes_one, beBytes_one]
    rfl
  · exact congrArg _ (if_pos h)
  · exact congrArg _ ((if_neg h).trans (if_neg (Nat.not_lt.2 hw)))
  · refine congrArg _ ((if_neg h).trans ((if_pos (Nat.lt_one_iff.2 hw)).trans ?_))
    rw [partSyncFrame, beBytes_one]
    rfl

/-- A cause raised beside an offered frame. -/
theorem raise_offer (mask : BitVec 8) (f : Frame) (s : State) :
    raise mask (offer f s) = { offer f s with port.causes := s.port.causes ||| mask } := by
  rw [offer_frame]
  rfl

/-! ## The lock (R152, R155, R156) -/

theorem syncArrival_acquiring (hl : s.link.state = .acquiring) :
    syncArrival s = if s.link.syncRun < 3 then { s with link := { s.link with syncRun := s.link.syncRun + 1, receiver := .hunt } }
      else acquireLock { s with link.receiver := .hunt } := by
  unfold syncArrival refresh
  rw [hl]
  dsimp only
  by_cases h : s.link.syncRun < 3
  · rw [if_pos h, if_pos (by omega)]
  · rw [if_neg h, if_neg (by omega)]

theorem syncArrival_locked (hl : s.link.state = .locked ∨ s.link.state = .checking) : syncArrival s = s.heard := by
  unfold syncArrival refresh
  rcases hl with hl | hl <;> rw [hl] <;> rfl

/-- Settles O46: the link state by state, and the transmitter. -/
theorem linkIsAcquired : Obligations.LinkIsAcquired := by
  intro s
  refine ⟨fun hs hd => ?_, fun h => ?_, fun hd => congrArg _ (syncArrival_detached hd), fun ha hr => ?_, fun ha hr => ?_,
    fun hl => ?_, fun hq => ?_, fun f rest hq => ?_⟩
  · have hawake : ({ s with dockPresent := true } : State).awake = true := (listens_iff s).1 hs
    exact congrArg _ (if_pos ⟨hawake, hd⟩)
  · refine congrArg _ (if_neg fun hx => h ⟨(listens_iff s).2 hx.1, hx.2⟩)
  · exact congrArg _ ((syncArrival_acquiring ha).trans (if_pos hr))
  · intro link unit
    refine congrArg _ (((syncArrival_acquiring ha).trans (if_neg (Nat.not_lt.2 hr))).trans ?_)
    exact raise_offer attDockChange unit { s with link := link }
  · exact congrArg _ (syncArrival_locked hl)
  · show execFrameSend s = _
    rw [execFrameSend, hq]
  · show execFrameSend s = _
    rw [execFrameSend, hq]

/-! ## The link check (R158, R161 to R163) -/

theorem checkResultFrame_eq (verdict : Nat) (s : State) :
    checkResultFrame verdict s = {
      typ := 0x95#8
      payload := BitVec.ofNat 8 verdict :: BitVec.ofNat 8 s.link.held.code
        :: (beBytes 2 s.link.errors ++ beBytes 2 s.link.patterns) } := by
  rw [checkResultFrame, beBytes_one, beBytes_one]
  rfl

/-- The pattern of a check, byte by byte. -/
theorem eq_checkPatternBytes {payload : List Byte} (h : payload.length = 64) :
    payload = checkPatternBytes ↔ ∀ n : Fin 64, byteAt payload n = BitVec.ofNat 8 n ^^^ 0xA5#8 := by
  have hlen : checkPatternBytes.length = 64 := by simp [checkPatternBytes]
  constructor
  · rintro rfl n
    rw [byteAt, List.getD_eq_getElem _ _ (n.isLt.trans_eq h.symm)]
    simp [checkPatternBytes]
  · intro hbytes
    refine List.ext_getElem (h.trans hlen.symm) fun n hn _ => ?_
    have hb := hbytes ⟨n, h ▸ hn⟩
    rw [byteAt, List.getD_eq_getElem _ _ hn] at hb
    rw [hb]
    simp [checkPatternBytes]

theorem checkPatternArrival_locked (hl : s.link.state = .locked) (payload : List Byte) :
    checkPatternArrival payload s = s.heard := by
  unfold checkPatternArrival refresh
  rw [hl]
  rfl

theorem checkPatternArrival_acquiring (hl : s.link.state = .acquiring) (payload : List Byte) :
    checkPatternArrival payload s = { s with link.syncRun := 0, link.receiver := .hunt } := by
  unfold checkPatternArrival refresh
  rw [hl]
  rfl

theorem checkPatternArrival_checking (hl : s.link.state = .checking) (payload : List Byte) :
    checkPatternArrival payload s = { s.heard with link := { s.heard.link with
      patterns := min 65535 (s.link.patterns + 1)
      errors := if payload = checkPatternBytes then s.link.errors else min 65535 (s.link.errors + 1) } } := by
  unfold checkPatternArrival refresh countPattern countCheckError
  rw [hl]
  simp only [satInc_eq_min]
  split <;> rfl

theorem checkEndArrival_locked (hl : s.link.state = .locked) : checkEndArrival s = s.heard := by
  unfold checkEndArrival refresh
  rw [hl]
  rfl

theorem checkEndArrival_acquiring (hl : s.link.state = .acquiring) :
    checkEndArrival s = { s with link.syncRun := 0, link.receiver := .hunt } := by
  unfold checkEndArrival refresh
  rw [hl]
  rfl

theorem checkEndArrival_checking (hl : s.link.state = .checking) : checkEndArrival s = endCheck s.heard := by
  unfold checkEndArrival refresh
  rw [hl]
  rfl

theorem verdict_code (pass : Bool) :
    BitVec.ofNat 8 (if pass then verdictPass else verdictFail) = if pass then 0#8 else 1#8 := by
  cases pass <;> rfl

/-- Settles O47: the start by the Outstanding Table, the patterns byte by byte, and the result by the errors counted. -/
theorem linkCheckIsRun : Obligations.LinkCheckIsRun := by
  intro s payload hlen result
  have hstart (hl : s.link.state = .locked) : exec .checkStart s = .next (checkStart s.heard) :=
    congrArg _ (messageArrival_locked hl _)
  have hpattern : exec (.checkPattern payload) s = .next (checkPatternArrival payload s) := congrArg _ (if_pos hlen)
  refine ⟨fun hl hb => ?_, fun hl hb => ?_, fun hl => ⟨?_, ?_⟩, fun hc => ?_, fun hc => ?_⟩
  · refine (hstart hl).trans (congrArg _ (if_neg ?_))
    rw [Bool.not_eq_true]
    exact blocksOut_eq_false.2 hb
  · refine (hstart hl).trans (congrArg _ ((if_pos (blocksOut_eq_true.2 hb)).trans ?_))
    rw [checkResultFrame_eq]
    rfl
  · rw [hpattern, checkPatternArrival_locked hl]
  · exact congrArg _ (checkEndArrival_locked hl)
  · rw [hpattern, checkPatternArrival_checking hc, min_top, min_top]
    simp only [eq_checkPatternBytes hlen]
  · intro pass t
    refine congrArg _ ((checkEndArrival_checking hc).trans ((raise_offer attCheckDone _ t).trans ?_))
    rw [checkResultFrame_eq, verdict_code]
    rfl

/-! ## Messages outside LOCKED (R152, R155, R158, R162) -/

/-- Outside LOCKED the owned messages are one: each clears the SYNC run, or is a check error. -/
theorem exec_ownedMessage {p10 p17 p2 : List Byte} (h10 : p10.length = 10) (h17 : p17.length = 17) (h2 : p2.length = 2)
    {m : Instr} (hm : m ∈ ownedMessages p10 p17 p2) (s : State) : ∃ act, exec m s = .next (messageArrival act s) := by
  simp only [ownedMessages, List.mem_cons, List.not_mem_nil, or_false] at hm
  rcases hm with rfl | rfl | rfl | rfl | rfl | rfl | rfl | rfl | rfl
  · exact ⟨_, congrArg _ (if_pos h10)⟩
  · exact ⟨_, congrArg _ (if_pos h17)⟩
  · exact ⟨_, rfl⟩
  · exact ⟨_, rfl⟩
  · exact ⟨_, rfl⟩
  · exact ⟨_, rfl⟩
  · exact ⟨_, rfl⟩
  · exact ⟨_, congrArg _ (if_pos h2)⟩
  · exact ⟨_, rfl⟩

theorem exec_unusableFrame {typ : Byte} {bad : List Byte} (h : isMessage typ bad = false) (s : State) :
    exec (.unusableFrame typ bad) s = .next (unusableArrival typ s) :=
  congrArg _ (if_neg fun hm => by simp [isMessage, hm] at h)

/-- Settles O48: the arrivals by the state of the link. -/
theorem arrivalsOutsideTheLock : Obligations.ArrivalsOutsideTheLock := by
  intro s p10 p17 p2 p64 bad typ m h10 h17 h2 h64 hbad errors
  have howned (hm : m ∈ ownedMessages p10 p17 p2) := exec_ownedMessage h10 h17 h2 hm s
  have hpattern : exec (.checkPattern p64) s = .next (checkPatternArrival p64 s) := congrArg _ (if_pos h64)
  have hunusable := exec_unusableFrame hbad s
  have hsplit {u : State} (hm : m ∈ ownedMessages p10 p17 p2 ++ [.checkPattern p64, .checkEnd, .unusableFrame typ bad])
      (hmessage : ∀ act, messageArrival act s = u) (hpat : checkPatternArrival p64 s = u) (hend : checkEndArrival s = u)
      (hun : unusableArrival typ s = u) : exec m s = .next u := by
    rcases List.mem_append.1 hm with hm | hm
    · obtain ⟨act, he⟩ := howned hm
      exact he.trans (congrArg _ (hmessage act))
    · simp only [List.mem_cons, List.not_mem_nil, or_false] at hm
      rcases hm with rfl | rfl | rfl
      · exact hpattern.trans (congrArg _ hpat)
      · exact congrArg _ hend
      · exact hunusable.trans (congrArg _ hun)
  refine ⟨fun hd hm => ?_, fun ha hm => ?_, fun hc hm => ?_, fun hc => ?_, fun hl => ?_⟩
  · exact hsplit hm (messageArrival_detached hd) (checkPatternArrival_detached hd p64) (checkEndArrival_detached hd)
      (unusableArrival_detached hd typ)
  · exact hsplit hm (messageArrival_acquiring ha) (checkPatternArrival_acquiring ha p64) (checkEndArrival_acquiring ha)
      (unusableArrival_acquiring ha typ)
  · obtain ⟨act, he⟩ := howned hm
    rw [he, messageArrival_checking hc, min_top]
  · rw [hunusable, unusableArrival_checking hc, min_top, min_top]
  · rw [hunusable, unusableArrival_locked hl]

end Sys2Proof.Machine

/-! PROOFS. The receiver of the Dock Link: what a run of bytes gathers, and the frames that end errored (R153, R154). -/

namespace Sys2Proof.Machine

variable {s : State}

/-! ## A run of bytes at the receiver -/

/-- A run of bytes at a receiver, and the arrivals they complete, in order. -/
def receive (rx : Receiver) (line : List RxByte) : Receiver × List Arrival :=
  line.foldl (fun acc b => ((receiveByte acc.1 b).1, acc.2 ++ (receiveByte acc.1 b).2.toList)) (rx, [])

theorem receiveLine_eq (line : List RxByte) : receiveLine line = receive .hunt line := rfl

theorem receive_nil (rx : Receiver) : receive rx [] = (rx, []) := rfl

theorem receive_cons (rx : Receiver) (b : RxByte) (line : List RxByte) :
    receive rx (b :: line) = ((receive (receiveByte rx b).1 line).1,
      (receiveByte rx b).2.toList ++ (receive (receiveByte rx b).1 line).2) := by
  have hacc : ∀ (line : List RxByte) (rx : Receiver) (done : List Arrival),
      line.foldl (fun acc b => ((receiveByte acc.1 b).1, acc.2 ++ (receiveByte acc.1 b).2.toList)) (rx, done)
        = ((receive rx line).1, done ++ (receive rx line).2) := by
    intro line
    induction line with
    | nil => intro rx done; simp [receive]
    | cons b t ih =>
      intro rx done
      rw [List.foldl_cons, receive, List.foldl_cons, ih, ih]
      simp
  rw [receive, List.foldl_cons, hacc]
  simp

theorem receive_append (rx : Receiver) (l₁ l₂ : List RxByte) :
    receive rx (l₁ ++ l₂) = ((receive (receive rx l₁).1 l₂).1, (receive rx l₁).2 ++ (receive (receive rx l₁).1 l₂).2) := by
  induction l₁ generalizing rx with
  | nil => rfl
  | cons b t ih => simp only [List.cons_append, receive_cons, ih, List.append_assoc]

/-- The frame's own delimiter takes the receiver into a frame. -/
theorem receive_delimiter (line : List RxByte) :
    receive .hunt ({ val := 0x7E#8, fault := false } :: line) = receive (.inFrame [] false) line := by
  rw [receive_cons]
  rfl

/-- Without a delimiter the receiver stays in HUNT. -/
theorem receive_hunt {line : List RxByte} (h : ∀ b ∈ line, b.val ≠ 0x7E#8) : receive .hunt line = (.hunt, []) := by
  induction line with
  | nil => rfl
  | cons b t ih =>
    have hb : receiveByte .hunt b = (.hunt, none) := if_neg (h b List.mem_cons_self)
    rw [receive_cons, hb, ih fun c hc => h c (List.mem_cons_of_mem _ hc)]
    rfl

/-! ## The bytes of one frame (R153) -/

/-- The bytes of a frame of `len` payload bytes from its type to its CRC. -/
structure Gathers (whole : List Byte) (len : Nat) : Prop where
  length : whole.length = 3 + len + 4
  short  : len ≤ 1023
  field  : ∀ g rest, g ++ rest = whole → 3 ≤ g.length → gatheredLength g = len

theorem gathers_frame (typ : Byte) {payload crc : List Byte} (hp : payload.length ≤ 1023) (hc : crc.length = 4) :
    Gathers (typ :: (beBytes 2 payload.length ++ payload ++ crc)) payload.length := by
  refine ⟨by simp [hc]; omega, hp, fun g rest hg h3 => ?_⟩
  have hfield : fieldAt (g ++ rest) 1 2 = fieldAt g 1 2 := by
    rw [fieldAt, fieldAt, List.drop_append_of_le_length (by omega), List.take_append_of_le_length (by simp; omega)]
  rw [gatheredLength, ← hfield, hg]
  show fieldAt (beBytes 2 payload.length ++ payload ++ crc) 0 2 = _
  rw [List.append_assoc]
  exact fieldAt_slot (by omega) _

section
variable {whole g : List Byte} {len : Nat} {f : Bool}

/-- Within a frame a byte is gathered, with its fault. -/
theorem receiveByte_gathers (h : Gathers whole len) (b : RxByte) {rest : List Byte} (hg : g ++ [b.val] ++ rest = whole)
    (hr : rest ≠ []) : receiveByte (.inFrame g f) b = (.inFrame (g ++ [b.val]) (f || b.fault), none) := by
  have hlen : (g ++ [b.val]).length + rest.length = 3 + len + 4 := by rw [← List.length_append, hg, h.length]
  have hpos := List.length_pos_iff.2 hr
  have hshort := h.short
  unfold receiveByte
  dsimp only
  by_cases h3 : (g ++ [b.val]).length < 3
  · rw [if_pos h3]
  · have hfield := h.field _ _ hg (Nat.le_of_not_lt h3)
    rw [if_neg h3, hfield, if_neg (by omega), if_pos (by omega)]

/-- The last byte of a frame ends it. -/
theorem receiveByte_ends (h : Gathers whole len) (b : RxByte) (hg : g ++ [b.val] = whole) :
    receiveByte (.inFrame g f) b = (.hunt, some (judgeFrame whole (f || b.fault))) := by
  have hlen : (g ++ [b.val]).length = 3 + len + 4 := by rw [hg, h.length]
  have hshort := h.short
  have hfield := h.field _ [] ((List.append_nil _).trans hg) (by omega)
  unfold receiveByte
  dsimp only
  rw [if_neg (by omega), hfield, if_neg (by omega), if_neg (by omega), hg]

/-- A run of a frame's bytes that does not end it. -/
theorem receive_gathers (h : Gathers whole len) {line : List RxByte} {rest : List Byte} (hr : rest ≠ [])
    (hg : g ++ line.map RxByte.val ++ rest = whole) :
    receive (.inFrame g f) line = (.inFrame (g ++ line.map RxByte.val) (f || line.any RxByte.fault), []) := by
  induction line generalizing g f with
  | nil => simp [receive_nil]
  | cons b t ih =>
    have hb : g ++ [b.val] ++ (t.map RxByte.val ++ rest) = whole := by rw [← hg]; simp
    rw [receive_cons, receiveByte_gathers h b hb (by simp [hr]), ih (by rw [← hb]; simp)]
    simp [Bool.or_assoc]

/-- The bytes of a whole frame end in its judgement. -/
theorem receive_whole (h : Gathers whole len) {line : List RxByte} (hline : line.map RxByte.val = whole) :
    receive (.inFrame [] false) line = (.hunt, [judgeFrame whole (line.any RxByte.fault)]) := by
  have hne : line ≠ [] := by
    rintro rfl
    have := h.length
    rw [← hline] at this
    simp at this
  obtain ⟨init, b, rfl⟩ := (List.eq_nil_or_concat' line).resolve_left hne
  rw [List.map_append] at hline
  rw [receive_append, receive_gathers h (rest := [b.val]) (by simp) (by simpa using hline), receive_cons,
    receiveByte_ends h b (by simpa using hline)]
  simp [receive_nil, List.any_append]

/-- A length above 1023 ends the frame at its length bytes. -/
theorem receive_overlong {typ high low : RxByte} (h : 1023 < 256 * high.val.toNat + low.val.toNat) :
    receive (.inFrame [] false) [typ, high, low] = (.hunt, [.errored]) := by
  have hfield : gatheredLength [typ.val, high.val, low.val] = 256 * high.val.toNat + low.val.toNat :=
    fieldAt_two (bs := [typ.val, high.val, low.val]) (off := 1) (by simp)
  have h1 (f : Bool) : receiveByte (.inFrame [] f) typ = (.inFrame [typ.val] (f || typ.fault), none) := rfl
  have h2 (f : Bool) : receiveByte (.inFrame [typ.val] f) high = (.inFrame [typ.val, high.val] (f || high.fault), none) := rfl
  have h3 (f : Bool) : receiveByte (.inFrame [typ.val, high.val] f) low = (.hunt, some .errored) := by
    have hnot : ¬ [typ.val, high.val, low.val].length < 3 := by simp
    simp only [receiveByte, List.cons_append, List.nil_append]
    rw [if_neg hnot, if_pos (h.trans_eq hfield.symm)]
  simp only [receive_cons, h1, h2, h3, receive_nil]
  rfl

end

/-! ## The judgement of a frame (R154) -/

section
variable (f : Frame) {crc : List Byte}

theorem judgeFrame_whole (hp : f.payload.length ≤ 1023) (hc : crc.length = 4) (fault : Bool) :
    judgeFrame (f.typ :: (beBytes 2 f.payload.length ++ f.payload ++ crc)) fault
      = if fault = true then .errored
        else if crc32 f.body = BitVec.ofNat 32 (beNat crc) then .valid f.typ f.payload else .errored := by
  have hlen := (gathers_frame f.typ hp hc).field _ [] (List.append_nil _) (by simp)
  have hwhole : f.typ :: (beBytes 2 f.payload.length ++ f.payload ++ crc) = f.body ++ crc := rfl
  have hbody : f.body.length = 3 + f.payload.length := by
    simp only [Frame.body, List.length_cons, List.length_append, beBytes_length]
    omega
  have htake : (f.body ++ crc).take (3 + f.payload.length) = f.body := List.take_left' hbody
  have hcrc : fieldAt (f.body ++ crc) (3 + f.payload.length) 4 = beNat crc := by
    rw [fieldAt, List.drop_left' hbody, List.take_of_length_le (by omega)]
  have hdrop : f.body.drop 3 = f.payload := List.drop_left' (l₁ := f.typ :: beBytes 2 f.payload.length) (by simp)
  unfold judgeFrame
  dsimp only
  rw [hlen, hwhole, htake, hcrc, hdrop]
  rfl

/-- A fault, or a CRC that does not match, makes a frame errored. -/
theorem judgeFrame_errored (hp : f.payload.length ≤ 1023) (hc : crc.length = 4) {fault : Bool}
    (h : fault = true ∨ beNat crc ≠ (crc32 f.body).toNat) :
    judgeFrame (f.typ :: (beBytes 2 f.payload.length ++ f.payload ++ crc)) fault = .errored := by
  rw [judgeFrame_whole f hp hc]
  by_cases hf : fault = true
  · rw [if_pos hf]
  · have hne := h.resolve_left hf
    rw [if_neg hf, if_neg fun he => hne ?_]
    have hlt : beNat crc < 2 ^ 32 := by
      have := beNat_lt crc
      rw [hc] at this
      omega
    rw [he, BitVec.toNat_ofNat, Nat.mod_eq_of_lt hlt]

/-- Settles O49: the bytes of a frame gather to its end, and its own CRC matches. -/
theorem receiverReadsEveryFrame : Obligations.ReceiverReadsEveryFrame := by
  intro f hp
  have hcrc := beBytes_length 4 (crc32 f.body).toNat
  have hnat : BitVec.ofNat 32 (beNat (beBytes 4 (crc32 f.body).toNat)) = crc32 f.body := by
    rw [beNat_beBytes, Nat.mod_eq_of_lt (by simpa using (crc32 f.body).isLt), BitVec.ofNat_toNat, BitVec.setWidth_eq]
  have hwhole : ((f.body ++ beBytes 4 (crc32 f.body).toNat).map (fun b => ({ val := b, fault := false } : RxByte))).map RxByte.val
      = f.typ :: (beBytes 2 f.payload.length ++ f.payload ++ beBytes 4 (crc32 f.body).toNat) := by
    rw [List.map_map]
    exact List.map_id _
  rw [receiveLine_eq, Frame.lineBytes, List.map_cons]
  show receive .hunt ({ val := 0x7E#8, fault := false } :: _) = _
  rw [receive_delimiter, receive_whole (gathers_frame f.typ hp hcrc) hwhole, judgeFrame_whole f hp hcrc, hnat]
  simp [List.any_map]

/-! ## ERRORED_FRAME (R153 to R155, R158, R162) -/

theorem erroredArrival_eq (s : State) :
    erroredArrival s = { s with
      link.syncRun := if s.link.state = .acquiring then 0 else s.link.syncRun
      link.errors := if s.link.state = .checking then min 65535 (s.link.errors + 1) else s.link.errors } := by
  unfold erroredArrival
  split
  · rename_i h
    rw [if_neg (by rw [h]; decide), if_neg (by rw [h]; decide)]
  · rename_i h
    rw [if_pos h, if_neg (by rw [h]; decide)]
    rfl
  · rename_i h
    rw [if_neg (by rw [h]; decide), if_neg (by rw [h]; decide)]
  · rename_i h
    rw [if_neg (by rw [h]; decide), if_pos h, countCheckError, satInc_eq_min]
    rfl

theorem erroredArrival_uncounted (h : s.link.state = .detached ∨ s.link.state = .locked) : erroredArrival s = s := by
  unfold erroredArrival
  rcases h with h | h <;> rw [h]

theorem erroredArrival_acquiring (h : s.link.state = .acquiring) : erroredArrival s = { s with link.syncRun := 0 } := by
  unfold erroredArrival
  rw [h]
  rfl

theorem erroredArrival_checking (h : s.link.state = .checking) :
    erroredArrival s = { s with link.errors := if s.link.errors < 65535 then s.link.errors + 1 else 65535 } := by
  unfold erroredArrival
  rw [h]
  rfl

theorem erroredArrival_setReceiver (s : State) (rx : Receiver) :
    erroredArrival { s with link.receiver := rx } = { erroredArrival s with link.receiver := rx } := by
  rw [erroredArrival_eq, erroredArrival_eq]

theorem erroredArrival_state (s : State) : (erroredArrival s).link.state = s.link.state := by
  rw [erroredArrival_eq]

theorem lineByte_eq (hd : s.link.state ≠ .detached) (rx : Receiver) (b : RxByte) :
    lineByte { s with link.receiver := rx } b = arrive (receiveByte rx b).2 { s with link.receiver := (receiveByte rx b).1 } :=
  if_neg hd

/-- A run of bytes that completes no arrival moves the receiver alone. -/
theorem lineBytes_quiet (hd : s.link.state ≠ .detached) {line : List RxByte} {rx : Receiver} (h : (receive rx line).2 = []) :
    line.foldl lineByte { s with link.receiver := rx } = { s with link.receiver := (receive rx line).1 } := by
  induction line generalizing rx with
  | nil => rfl
  | cons b t ih =>
    rw [receive_cons] at h
    obtain ⟨hb, ht⟩ := List.append_eq_nil_iff.1 h
    rw [List.foldl_cons, lineByte_eq hd, receive_cons, Option.toList_eq_nil_iff.1 hb]
    exact ih ht

/-- A run of bytes that ends one frame, errored, and leaves the receiver in HUNT. -/
theorem lineBytes_errored (hd : s.link.state ≠ .detached) {line : List RxByte} {rx : Receiver}
    (h : receive rx line = (.hunt, [.errored])) :
    line.foldl lineByte { s with link.receiver := rx } = erroredArrival { s with link.receiver := .hunt } := by
  induction line generalizing rx with
  | nil => cases h
  | cons b t ih =>
    rw [receive_cons] at h
    obtain ⟨hrx, ha⟩ := Prod.mk.injEq .. ▸ h
    rw [List.foldl_cons, lineByte_eq hd]
    cases hb : (receiveByte rx b).2 with
    | none =>
      rw [hb] at ha
      exact ih (Prod.ext hrx ha)
    | some a =>
      rw [hb] at ha
      obtain ⟨rfl, hquiet⟩ := List.cons_eq_cons.1 ha
      show t.foldl lineByte (erroredArrival _) = _
      rw [erroredArrival_setReceiver, lineBytes_quiet (erroredArrival_state s ▸ hd) hquiet, hrx, ← erroredArrival_setReceiver]

/-- The frames that ERRORED_FRAME brings: those that end errored at the receiver, and those that the gap cuts short. -/
theorem execErroredFrame_counted {line : List RxByte} (hrx : s.link.receiver = .hunt)
    (h : receive .hunt line = (.hunt, [.errored]) ∨ ∃ g f, receive .hunt line = (.inFrame g f, [])) :
    exec (.erroredFrame line) s = .next (erroredArrival s) := by
  by_cases hd : s.link.state = .detached
  · rw [erroredArrival_uncounted (.inl hd)]
    show Host.Outcome.next (lineGap (line.foldl lineByte s)) = _
    rw [lineBytes_detached hd, lineGap_detached hd]
  · have hs : s = { s with link.receiver := .hunt } := by rw [← hrx]
    have hgap (t : State) (ht : t.link.state ≠ .detached) :
        lineGap t = arrive (receiveGap t.link.receiver).2 { t with link.receiver := (receiveGap t.link.receiver).1 } := if_neg ht
    have herr : (erroredArrival s).link.receiver = .hunt := by rw [erroredArrival_eq]; exact hrx
    refine congrArg Host.Outcome.next ?_
    rcases h with h | ⟨g, f, h⟩
    · have hline : line.foldl lineByte s = erroredArrival s := by
        conv_lhs => rw [hs]
        rw [lineBytes_errored hd h, ← hs]
      rw [hline, hgap _ (erroredArrival_state s ▸ hd), herr]
      show ({ erroredArrival s with link.receiver := .hunt } : State) = _
      rw [← erroredArrival_setReceiver, ← hs]
    · have hline : line.foldl lineByte s = { s with link.receiver := .inFrame g f } := by
        conv_lhs => rw [hs]
        rw [lineBytes_quiet hd (by rw [h]), h]
      rw [hline, hgap { s with link.receiver := .inFrame g f } hd]
      show erroredArrival { s with link.receiver := .hunt } = _
      rw [← hs]

/-- Settles O50: the cut and the faulty frames by what their bytes gather to, the over-long ones by their length bytes. -/
theorem erroredFrameIsCounted : Obligations.ErroredFrameIsCounted := by
  unfold Obligations.ErroredFrameIsCounted
  intro counted
  have hcounted {line : List RxByte} {s : State} (h : exec (.erroredFrame line) s = .next (erroredArrival s)) : counted line s := by
    refine ⟨fun hl => h.trans ?_, fun hl => h.trans ?_, fun hl => h.trans ?_⟩
    · rw [erroredArrival_uncounted hl]
    · rw [erroredArrival_acquiring hl]
    · rw [erroredArrival_checking hl]
  refine ⟨fun s f crc k faults hp hc => ?_, fun s typ high low rest hlong hrest hrx => ?_⟩
  · intro whole part hlen hbad hrx
    refine hcounted (execErroredFrame_counted hrx ?_)
    rw [receive_delimiter]
    have hg := gathers_frame f.typ hp hc
    have hvals : ((part.zip faults).map (fun x => ({ val := x.1, fault := x.2 } : RxByte))).map RxByte.val = part := by
      rw [List.map_map]
      exact List.map_fst_zip (le_of_eq hlen.symm)
    have hfaults : ((part.zip faults).map (fun x => ({ val := x.1, fault := x.2 } : RxByte))).any RxByte.fault
        = faults.any (fun x => x) := by
      rw [List.any_map]
      conv_rhs => rw [← List.map_snd_zip (le_of_eq hlen), List.any_map]
      rfl
    by_cases hk : k < whole.length
    · refine .inr ⟨_, _, receive_gathers hg (rest := whole.drop k) ?_ ?_⟩
      · rw [← List.length_pos_iff, List.length_drop]
        omega
      · rw [hvals, List.nil_append]
        exact List.take_append_drop k whole
    · have hpart : part = whole := List.take_of_length_le (Nat.le_of_not_lt hk)
      refine .inl ((receive_whole hg (hvals.trans hpart)).trans ?_)
      rw [judgeFrame_errored f hp hc (hfaults ▸ hbad.resolve_left hk)]
  · have hover := receive_overlong (typ := typ) hlong
    refine ⟨(receiveLine_eq _).trans ((receive_delimiter _).trans hover), hcounted (execErroredFrame_counted hrx (.inl ?_))⟩
    rw [receive_delimiter, show typ :: high :: low :: rest = [typ, high, low] ++ rest from rfl, receive_append, hover,
      receive_hunt hrest]
    rfl

end

end Sys2Proof.Machine

/-! PROOFS. The passes and the blocks of the Upload Engine (R168 to R179). -/

namespace Sys2Proof.Machine

variable {s : State}

/-! ## Passes (R168, R169, R179) -/

/-- Settles O51: the requests, the stops and the end of a pass. -/
theorem passesStartAndEnd : Obligations.PassesStartAndEnd := by
  refine ⟨fun s hl => ?_, fun s hl => ?_⟩
  · exact congrArg _ (if_neg fun he => hl (passEnds_iff.1 he).2.2)
  · intro ignored starts ends
    have hrequest : exec .uploadRequest s = .next (uploadRequest s.heard) := congrArg _ (messageArrival_locked hl _)
    have hstop : exec .uploadStop s = .next (uploadStop s.heard) := congrArg _ (messageArrival_locked hl _)
    have hends : s.passEnds = true ↔ ends := by
      rw [passEnds_iff]
      simp only [hl, and_true, ends]
    refine ⟨fun h => hrequest.trans (congrArg _ (if_pos h)), fun h => hrequest.trans (congrArg _ (if_neg h)),
      fun h => hstop.trans (congrArg _ (if_pos h)), fun h => hstop.trans (congrArg _ (if_neg h)), fun h => ?_,
      fun h => congrArg _ (if_neg fun he => h (hends.1 he))⟩
    refine congrArg Host.Outcome.next ((if_pos (hends.2 h)).trans ?_)
    show raise attUploadDone { offer (uploadEndFrame s) s with upload.state := .idle }
      = { offer (uploadEndFrame s) s with upload.state := .idle, port.causes := s.port.causes ||| attUploadDone }
    rw [offer_frame (uploadEndFrame s)]
    rfl

/-! ## Blocks that return (R176 to R178) -/

/-- The entry that a search finds is the one that leaves the table. -/
theorem eraseP_eq_erase {table : List Outstanding} {p : Outstanding → Bool} {o : Outstanding} (h : table.find? p = some o) :
    table.eraseP p = table.erase o := by
  induction table with
  | nil => cases h
  | cons a t ih =>
    by_cases ha : p a = true
    · rw [List.find?_cons_of_pos ha] at h
      obtain rfl := Option.some.inj h
      rw [List.eraseP_cons_of_pos ha, List.erase_cons_head]
    · rw [List.find?_cons_of_neg ha] at h
      have hne : ¬ (a == o) = true := fun he => ha (by rw [eq_of_beq he]; exact List.find?_some h)
      rw [List.eraseP_cons_of_neg ha, List.erase_cons_tail hne, ih h]

theorem execBlockExpiry_eq (h : s.Laws) {block : Byte} {o : Outstanding}
    (ho : s.upload.table.find? (fun o => o.block == block && decide (o.tenths ≤ 1)) = some o) :
    execBlockExpiry block s = .next { s.freed o.slots 1 with upload.table := s.upload.table.erase o } := by
  obtain ⟨-, -, -, hreturned, -, -, -⟩ := h.sound.blocks.counts
  unfold execBlockExpiry
  rw [show s.upload.table.find? (fun o => o.block == block && o.due) = some o from ho]
  dsimp only
  rw [expireEntry_eq h.sound.roster.rising hreturned, eraseP_eq_erase (p := fun o => o.block == block && o.due) ho]

theorem blockAck_stray {block verdict : Byte} (h : ∀ o ∈ s.upload.table, o.block ≠ block) :
    blockAck [block, verdict] s
      = { s with upload.strays := if s.upload.strays < 65535 then s.upload.strays + 1 else 65535 } := by
  have hnone : s.upload.table.find? (fun o => o.block == block) = none := List.find?_eq_none.2 fun o ho => by simpa using h o ho
  unfold blockAck
  dsimp only
  rw [show byteAt [block, verdict] 0 = block from rfl, hnone]
  rfl

theorem blockAck_refused (h : tableRising s.roster.slots = true) (hreturned : s.upload.returned ≤ 65535)
    {block verdict : Byte} {o : Outstanding} (ho : s.upload.table.find? (fun x => x.block == block) = some o) (hv : verdict ≠ 1#8) :
    blockAck [block, verdict] s = { s with
      roster := (s.released o.slots).roster
      upload := { s.upload with
        table := s.upload.table.erase o
        returned := min 65535 (s.upload.returned + o.slots.length) } } := by
  have hdef : blockAck [block, verdict] s = removeEntry block { releaseSlots o.slots s with
      upload.returned := o.slots.foldl (fun n _ => satInc Config.countTop n) (releaseSlots o.slots s).upload.returned } := by
    unfold blockAck
    dsimp only
    rw [show byteAt [block, verdict] 0 = block from rfl, ho]
    exact if_neg hv
  have hcount := satInc_foldl o.slots (top := Config.countTop) (n := (s.released o.slots).upload.returned) hreturned
  rw [hdef, releaseSlots_released h, hcount, ← eraseP_eq_erase ho]
  rfl

/-- Settles O53: the entry that is found, its records released, and the counts. -/
theorem blocksReturnOrStray : Obligations.BlocksReturnOrStray := by
  refine ⟨fun s block verdict hl => ?_, fun s block => ⟨fun hnone => ?_, fun o h ho => execBlockExpiry_eq h ho⟩⟩
  · have hack : exec (.blockAck [block, verdict]) s = .next (blockAck [block, verdict] s.heard) :=
      congrArg _ ((if_pos rfl).trans (messageArrival_locked hl _))
    refine ⟨fun h => hack.trans (congrArg _ (blockAck_stray h)), fun o h ho hv => hack.trans (congrArg _ ?_)⟩
    obtain ⟨-, -, -, hreturned, -, -, -⟩ := h.sound.blocks.counts
    exact blockAck_refused (s := s.heard) h.sound.roster.rising hreturned ho hv
  · show execBlockExpiry block s = _
    unfold execBlockExpiry
    rw [show s.upload.table.find? (fun o => o.block == block && o.due) = none from hnone]

end Sys2Proof.Machine

/-! PROOFS. The assembly of a block (R170 to R172). -/

namespace Sys2Proof.Machine

variable {s : State}

theorem execAssembly_notMade
    (h : s.upload.state ≠ .passing ∨ s.upload.cursor = none ∨ 4 ≤ s.upload.table.length ∨ s.link.state ≠ .locked) :
    execAssembly s = .next s := by
  unfold execAssembly
  split
  · rfl
  · rename_i cursor hc
    refine if_neg fun ⟨hp, hroom, hl⟩ => ?_
    rcases h with h | h | h | h
    · exact h hp
    · cases hc.symm.trans h
    · exact absurd hroom (Nat.not_lt.2 h)
    · exact h hl

theorem execAssembly_made {cursor : Nat} (hc : s.upload.cursor = some cursor) (hp : s.upload.state = .passing)
    (hroom : s.upload.table.length < 4) (hl : s.link.state = .locked) :
    execAssembly s = .next (if s.scan cursor = [] then { s with upload.cursor := cursorAfter (s.scan cursor) }
      else makeBlock (s.scan cursor) { s with upload.cursor := cursorAfter (s.scan cursor) }) := by
  unfold execAssembly
  rw [hc]
  exact if_pos ⟨hp, hroom, hl⟩

/-- The records that an assembly takes, as R170 says which are eligible. -/
theorem scan_eq (s : State) (cursor : Nat) :
    s.scan cursor = (s.roster.slots.filter (fun e => decide (cursor ≤ e.1 ∧ (e.2.upload = .idle
      ∧ ((s.route.state = .active ∧ (e.2.state = .read ∨ e.2.state = .reviewed) ∧ e.2.eval = .done)
        ∨ (s.route.state = .closed
            ∧ (e.2.state = .notRead ∨ ((e.2.state = .read ∨ e.2.state = .reviewed ∨ e.2.state = .flagged)
              ∧ e.2.eval = .done)))))))).take 16 := by
  refine congrArg (List.take 16) (List.filter_congr fun e _ => ?_)
  rw [Bool.eq_iff_iff, Bool.and_eq_true, decide_eq_true_eq, decide_eq_true_eq, eligible_iff]

/-- The cursor after an assembly, by the last slot taken. -/
theorem cursorAfter_eq {taken : List (Nat × Record)} (h : ∀ e ∈ taken, e.1 < 8192) :
    cursorAfter taken = if taken.length = 16
      then (taken.getLast?.bind fun e => if e.1 = 8191 then none else some (e.1 + 1)) else none := by
  unfold cursorAfter
  refine if_congr Iff.rfl ?_ rfl
  cases hlast : taken.getLast? with
  | none => rfl
  | some e =>
    have hlt := h e (List.mem_of_getLast? hlast)
    show (if e.1 + 1 < 8192 then some (e.1 + 1) else none) = if e.1 = 8191 then none else some (e.1 + 1)
    by_cases he : e.1 = 8191
    · rw [if_pos he, if_neg (by omega)]
    · rw [if_neg he, if_pos (by omega)]

/-- The records taken are those of the slots taken. -/
theorem carrying_slots (h : tableRising s.roster.slots = true) (block : BitVec 8) {taken : List (Nat × Record)}
    (hsub : ∀ e ∈ taken, e ∈ s.roster.slots) :
    s.roster.slots.map (fun e => (e.1, carriedIn block (slotsOf taken) e.1 e.2))
      = s.roster.slots.map (fun e => (e.1, if e ∈ taken then { e.2 with upload := .carried block false } else e.2)) := by
  refine List.map_congr_left fun e he => congrArg _ ?_
  refine if_congr ⟨fun hn => ?_, fun hn => List.mem_map.2 ⟨e, hn, rfl⟩⟩ rfl rfl
  obtain ⟨f, hf, hfe⟩ := List.mem_map.1 hn
  have hrec : f.2 = e.2 := Option.some.inj ((tableGet_of_mem h (hsub f hf)).symm.trans (hfe ▸ tableGet_of_mem h he))
  rwa [← Prod.ext hfe hrec]

/-- Settles O52: the first sixteen eligible records, and the block made of them. -/
theorem assemblyMakesABlock : Obligations.AssemblyMakesABlock := by
  refine ⟨fun s h => execAssembly_notMade h, fun s cursor ht hc hp hroom hl => ?_⟩
  intro ready taken next
  obtain ⟨hrising, hkeys, -⟩ := ht
  have hscan : s.scan cursor = taken := scan_eq s cursor
  have hsub : ∀ e ∈ taken, e ∈ s.roster.slots := fun e he => (mem_scan (s := s) (hscan ▸ he)).1
  have hnext : cursorAfter taken = next := cursorAfter_eq fun e he => hkeys e (hsub e he)
  have hexec := execAssembly_made hc hp hroom hl
  rw [hscan, hnext] at hexec
  refine ⟨fun hnone => ?_, fun hsome => ⟨_, ?_, rfl⟩⟩
  · have hn : next = none := by
      rw [← hnext, hnone]
      rfl
    rw [if_pos hnone, hn] at hexec
    exact hexec
  · rw [if_neg hsome, makeBlock_eq (s := { s with upload.cursor := next }) hrising hsub
      ((hscan ▸ scan_pairwise hrising cursor).imp Nat.ne_of_lt)] at hexec
    refine hexec.trans (congrArg Host.Outcome.next ?_)
    unfold State.blockMade State.carrying
    rw [carrying_slots (s := { s with upload.cursor := next }) hrising _ hsub]
    rfl

end Sys2Proof.Machine

/-! PROOFS. An accepted block: its records retired or returned, one after the other, in closed form (R175, R46, R126, R128). -/

namespace Sys2Proof.Machine

variable {s t : State} {loose d rest : List Nat} {n k : Nat} {r : Record}

/-! ## A record that is not EXPECTED departs (R126, R128) -/

/-- The last member of an open segment, with a reading or NOT_READ, is in a COMPLETE segment. -/
theorem State.Live.complete_of_last (h : s.Live loose) (hr : s.recordAt n = some r) (hx : r.state ≠ .expected)
    (hv : (s.segAt r.segment).vacates) : (s.segAt r.segment).state = .complete := by
  obtain ⟨hopen, hone⟩ := hv
  have hn : r.segment < 1024 := Nat.lt_succ_of_le (h.records.each n r hr).inRange.2.2.2.1
  have hentry : EntrySound _ _ _ (s.segAt r.segment) := h.segments.each _ hn
  have hread : (s.segAt r.segment).read = _ := hentry.read
  have hpos : 1 ≤ (s.segAt r.segment).read := hread ▸ countNaming_pos (fun r => decide (r.state ≠ .expected)) hr (by simp [hx])
  have hroute : s.route.state ≠ .closed := fun hc => by
    rcases hentry.closed hc with hs | ⟨-, h0⟩
    · exact hopen hs
    · omega
  have hfits := hentry.fits hroute
  unfold SegEntry.fits at hfits
  cases hs : (s.segAt r.segment).state <;> rw [hs] at hfits
  case closed => exact absurd hs hopen
  all_goals omega

/-- What a record that is not EXPECTED takes with it: its place in the counts of its segment, and the segment's state with the
last member. -/
theorem State.Live.segLose_read (h : s.Live loose) (hr : s.recordAt n = some r) (hx : r.state ≠ .expected) :
    let u := segLose r.segment r (dropSlot n s)
    u = { dropSlot n s with seg := { s.seg with table := u.seg.table } }
    ∧ ∀ m, u.segAt m = if m = r.segment then
        { s.segAt m with
          members := (s.segAt m).members - 1
          read := (s.segAt m).read - 1
          flagged := (s.segAt m).flagged - if r.state = .flagged then 1 else 0
          state := if (s.segAt m).vacates then .vacant else (s.segAt m).state }
      else s.segAt m := by
  intro u
  have hlost : SegmentLost r.segment r (dropSlot n s) u := segLose_settles (h.counts_record hr)
  have hno : ¬ (s.segAt r.segment).completesWithout r := fun hc => hx hc.1
  have hn : r.segment < 1024 := Nat.lt_succ_of_le (h.records.each n r hr).inRange.2.2.2.1
  obtain ⟨hframe, hentry, hothers⟩ := hlost
  generalize u = u at hframe hentry hothers ⊢
  have hrevisit : (if (s.segAt r.segment).vacates ∨ (s.segAt r.segment).completesWithout r
      then s.seg.revisit.filter (fun m => m != r.segment) else s.seg.revisit) = s.seg.revisit := by
    split
    · rename_i hv
      have hcomplete := h.complete_of_last hr hx (hv.resolve_right hno)
      refine List.filter_eq_self.2 fun m hm => ?_
      have hmissed : (s.segAt m).state = .missed := ((h.segments.revisit m).1 hm).2
      refine bne_iff_ne.2 fun he => ?_
      rw [he] at hmissed
      cases hcomplete.symm.trans hmissed
    · rfl
  have hdeadline : (if (s.segAt r.segment).vacates ∨ (s.segAt r.segment).completesWithout r then none
      else (s.segAt r.segment).deadline) = (s.segAt r.segment).deadline := by
    split
    · rename_i hv
      exact (h.segments.no_deadline hn (.inr (h.complete_of_last hr hx (hv.resolve_right hno)))).symm
    · rfl
  constructor
  · have hput {rs : List Nat} {cs : BitVec 8} {p : Nat} (h1 : rs = s.seg.revisit) (h2 : cs = s.port.causes) (h3 : p = s.lines.pulse) :
        ({ dropSlot n s with
          seg := { s.seg with table := u.seg.table, revisit := rs }, port.causes := cs, lines.pulse := p } : State)
          = { dropSlot n s with seg := { s.seg with table := u.seg.table } } := by
      rw [h1, h2, h3]
      rfl
    exact hframe.trans (hput hrevisit (if_neg hno) (if_neg hno))
  · intro m
    split
    · rename_i hm
      rw [hm]
      refine hentry.trans ?_
      have hput {st : SegState} {dl : Option Nat} {a b : Nat} (h1 : st = if (s.segAt r.segment).vacates then .vacant
            else (s.segAt r.segment).state) (h2 : dl = (s.segAt r.segment).deadline) (h3 : a = (s.segAt r.segment).read - 1)
          (h4 : b = (s.segAt r.segment).flagged - if r.state = .flagged then 1 else 0) :
          ({ s.segAt r.segment with
            members := (s.segAt r.segment).members - 1, read := a, flagged := b, state := st, deadline := dl } : SegEntry)
            = { s.segAt r.segment with
              members := (s.segAt r.segment).members - 1
              read := (s.segAt r.segment).read - 1
              flagged := (s.segAt r.segment).flagged - if r.state = .flagged then 1 else 0
              state := if (s.segAt r.segment).vacates then .vacant else (s.segAt r.segment).state } := by
        rw [h1, h2, h3, h4]
      refine hput (if_congr Iff.rfl rfl (if_neg hno)) hdeadline (if_neg hx) ?_
      show (if r.state = .flagged then (s.segAt r.segment).flagged - 1 else (s.segAt r.segment).flagged) = _
      split <;> rfl
    · rename_i hm
      exact hothers m hm

/-! ## The closed form of an accepted block -/

/-- The record of a slot is superseded, and returns (R175). -/
def State.staysIn (s : State) (n : Nat) : Bool := (s.recordAt n).any (fun r => r.upload.isSuperseded)

/-- The record of one of the slots departs with the block. -/
def State.leavesIn (s : State) (d : List Nat) (n : Nat) : Bool := decide (n ∈ d) && !s.staysIn n

/-- The records that the slots leave in the roster. -/
def State.keptBy (s : State) (d : List Nat) : List (Nat × Record) := s.roster.slots.filter (fun e => !s.leavesIn d e.1)

/-- The records of a segment that depart. -/
def State.lostBy (s : State) (d : List Nat) (n : Nat) : List (Nat × Record) :=
  s.roster.slots.filter (fun e => s.leavesIn d e.1 && decide (e.2.segment = n))

/-- The slots empty a CLOSED route (R46). -/
abbrev State.emptiedBy (s : State) (d : List Nat) : Prop := s.route.state = .closed ∧ s.keptBy d = []

/-- The entry of a segment that `k` records, none of them EXPECTED and `f` of them FLAGGED, have left. -/
def SegEntry.lessen (e : SegEntry) (k f : Nat) : SegEntry :=
  { e with
    members := e.members - k
    read := e.read - k
    flagged := e.flagged - f
    state := if k ≠ 0 ∧ e.state ≠ .closed ∧ e.members = k then .vacant else e.state }

theorem SegEntry.lessen_zero (e : SegEntry) : e.lessen 0 0 = e := by
  simp [SegEntry.lessen]

/-- One record more leaves a segment that has a member left. -/
theorem SegEntry.lessen_succ (e : SegEntry) {k f b : Nat} (h : 1 ≤ (e.lessen k f).members) :
    { e.lessen k f with
      members := (e.lessen k f).members - 1
      read := (e.lessen k f).read - 1
      flagged := (e.lessen k f).flagged - b
      state := if (e.lessen k f).vacates then .vacant else (e.lessen k f).state } = e.lessen (k + 1) (f + b) := by
  have hm : k < e.members := by
    have : 1 ≤ e.members - k := h
    omega
  have hst : (e.lessen k f).state = e.state := if_neg fun hx => by omega
  have hv : (e.lessen k f).vacates ↔ k + 1 ≠ 0 ∧ e.state ≠ .closed ∧ e.members = k + 1 := by
    unfold SegEntry.vacates
    rw [hst]
    show _ ∧ e.members - k = 1 ↔ _
    constructor
    · exact fun ⟨ho, h1⟩ => ⟨by omega, ho, by omega⟩
    · exact fun ⟨_, ho, h1⟩ => ⟨ho, by omega⟩
  have hstate := if_congr hv (rfl : SegState.vacant = .vacant) hst
  rw [hstate]
  simp only [SegEntry.lessen, Nat.sub_sub]

/-- What an accepted block leaves when the slots of `d` have been dealt with (R175, R16, R46, R126, R128, R182). -/
structure Accepted (s : State) (d : List Nat) (t : State) : Prop where
  slots   : t.roster.slots = (s.keptBy d).map (fun e => (e.1, if e.1 ∈ d then e.2.release else e.2))
  index   : t.roster.index = s.roster.index.filter (fun w => !s.leavesIn d w.2)
  chain   : t.chain = s.chain.filter (fun n => !s.leavesIn d n)
  queue   : t.eval.queue = s.eval.queue.filter (fun n => !s.leavesIn d n)
  running : t.eval.running = s.eval.running.map (fun c => if s.leavesIn d c.slot = true then { c with departed := true } else c)
  upload  : t.upload = { s.upload with
    retired := min 65535 (s.upload.retired + (d.filter (s.leavesIn d)).length)
    returned := min 65535 (s.upload.returned + (d.filter s.staysIn).length)
    cursor := if s.emptiedBy d ∧ s.upload.state = .passing then none else s.upload.cursor }
  emptied : s.emptiedBy d → t.route = {} ∧ t.seg = {}
  open'   : ¬ s.emptiedBy d → t.route = s.route ∧ t.seg = { s.seg with table := t.seg.table }
    ∧ ∀ n, t.segAt n = (s.segAt n).lessen (s.lostBy d n).length
        ((s.lostBy d n).filter (fun e => decide (e.2.state = .flagged))).length
  frame   : t = { s with
    roster := t.roster, route := t.route, eval := t.eval, chain := t.chain, seg := t.seg, upload := t.upload }

section
variable (s d)

theorem leavesIn_snoc (n k : Nat) : s.leavesIn (d ++ [n]) k = (s.leavesIn d k || (decide (k = n) && !s.staysIn n)) := by
  unfold State.leavesIn
  by_cases hk : k = n
  · subst hk
    cases s.staysIn k <;> simp
  · simp [hk]

theorem leavesIn_snoc_stays (hn : s.staysIn n = true) : s.leavesIn (d ++ [n]) = s.leavesIn d := by
  funext k
  rw [leavesIn_snoc, hn]
  simp

theorem leavesIn_snoc_leaves (hn : s.staysIn n = false) (k : Nat) :
    (!s.leavesIn (d ++ [n]) k) = (!s.leavesIn d k && (k != n)) := by
  rw [leavesIn_snoc, hn]
  by_cases hk : k = n <;> simp [hk]

end

theorem tableGet_filter_key {α : Type} (p : Nat → Bool) (m : List (Nat × α)) (k : Nat) :
    tableGet (m.filter (fun e => p e.1)) k = if p k = true then tableGet m k else none := by
  induction m with
  | nil => simp [tableGet]
  | cons e m ih =>
    rw [List.filter_cons]
    by_cases he : e.1 = k
    · subst he
      by_cases hp : p e.1 = true
      · simp [hp, tableGet]
      · rw [if_neg hp, ih, if_neg hp, if_neg hp]
    · by_cases hp : p e.1 = true
      · rw [if_pos hp]
        simp only [tableGet, if_neg he, ih]
      · rw [if_neg hp, ih]
        simp only [tableGet, if_neg he]

/-- What remains is a record of its own until its slot is dealt with. -/
theorem Accepted.recordAt (h : Accepted s d t) (hk : k ∉ d) :
    t.recordAt k = s.recordAt k := by
  have hleaves : s.leavesIn d k = false := by simp [State.leavesIn, hk]
  have hkept : tableGet (s.keptBy d) k = s.recordAt k := by
    rw [State.keptBy, tableGet_filter_key (fun k => !s.leavesIn d k), hleaves]
    rfl
  rw [State.recordAt, h.slots]
  refine (tableGet_map (fun (n : Nat) (r : Record) => if n ∈ d then r.release else r) (s.keptBy d) k).trans ?_
  rw [hkept]
  cases s.recordAt k <;> simp [hk]

/-- While one of its records is still in the roster, a block has not emptied the route. -/
theorem Accepted.not_emptied (h : Accepted s d t) (hr : t.recordAt n = some r) : ¬ s.emptiedBy d := fun ⟨_, hkept⟩ => by
  have hslots := h.slots
  rw [hkept] at hslots
  rw [State.recordAt, hslots] at hr
  cases hr

/-- The record of a slot is counted once among those listed. -/
theorem length_filter_slot {slots : List (Nat × Record)} (h : tableRising slots = true) (hr : tableGet slots n = some r)
    {p q : Nat × Record → Bool} (hq : ∀ e ∈ slots, e.1 ≠ n → q e = p e) (hp : p (n, r) = false) :
    (slots.filter q).length = (slots.filter p).length + if q (n, r) = true then 1 else 0 := by
  obtain ⟨before, after, rfl⟩ := List.append_of_mem (mem_of_tableGet hr)
  rw [tableRising_iff] at h
  obtain ⟨-, hafter, hbefore⟩ := List.pairwise_append.1 h
  have hb : before.filter q = before.filter p := List.filter_congr fun e he =>
    hq e (by simp [he]) (Nat.ne_of_lt (hbefore e he _ List.mem_cons_self))
  have ha : after.filter q = after.filter p := List.filter_congr fun e he =>
    hq e (by simp [he]) (Nat.ne_of_gt ((List.pairwise_cons.1 hafter).1 e he))
  simp only [List.filter_append, List.filter_cons, hb, ha, hp]
  by_cases hx : q (n, r) = true
  · simp [hx]
    omega
  · simp [hx]

/-- A superseded record of the block returns. -/
theorem Accepted.returns (h : Accepted s d t) (hs : tableRising s.roster.slots = true)
    (hrising : tableRising t.roster.slots = true) (hr : t.recordAt n = some r)
    (hn : n ∉ d) (hsup : r.upload.isSuperseded = true) : Accepted s (d ++ [n]) (acceptSlot t n) := by
  have hsame : s.recordAt n = some r := h.recordAt hn ▸ hr
  have hstays : s.staysIn n = true := by simp [State.staysIn, hsame, hsup]
  have hleaves := leavesIn_snoc_stays s d hstays
  have hkept : s.keptBy (d ++ [n]) = s.keptBy d := by rw [State.keptBy, hleaves]; rfl
  have hlost (m : Nat) : s.lostBy (d ++ [n]) m = s.lostBy d m := by rw [State.lostBy, hleaves]; rfl
  have hnot := h.not_emptied hr
  have hnot' : ¬ s.emptiedBy (d ++ [n]) := by rw [State.emptiedBy, hkept]; exact hnot
  have hstep : acceptSlot t n = { t with
      roster.slots := t.roster.slots.map (fun e => (e.1, if e.1 = n then r.release else e.2))
      upload.returned := min 65535 (t.upload.returned + 1) } := by
    unfold acceptSlot
    rw [hr]
    refine (if_pos hsup).trans ?_
    rw [setRecord_listed (s := { t with upload.returned := satInc Config.countTop t.upload.returned }) _ hrising hr, satInc_eq_min]
    rfl
  have hretired : ((d ++ [n]).filter (s.leavesIn (d ++ [n]))).length = (d.filter (s.leavesIn d)).length := by
    have hfalse : s.leavesIn d n = false := by simp [State.leavesIn, hn]
    rw [hleaves, List.filter_append, List.filter_cons, hfalse]
    simp
  have hreturned : ((d ++ [n]).filter s.staysIn).length = (d.filter s.staysIn).length + 1 := by
    rw [List.filter_append, List.filter_cons, hstays]
    simp
  rw [hstep]
  obtain ⟨hroute, hseg, hentries⟩ := h.open' hnot
  refine ⟨?_, ?_, ?_, ?_, ?_, ?_, fun he => absurd he hnot', fun _ => ⟨hroute, hseg, fun m => ?_⟩, ?_⟩
  · show t.roster.slots.map _ = _
    rw [h.slots, hkept, List.map_map]
    refine List.map_congr_left fun e he => ?_
    show (e.1, if e.1 = n then r.release else if e.1 ∈ d then e.2.release else e.2) = _
    by_cases hen : e.1 = n
    · have her : e.2 = r := Option.some.inj ((tableGet_of_mem hs (List.mem_filter.1 he).1).symm.trans (hen ▸ hsame))
      simp [hen, her]
    · simp [hen]
  · rw [hleaves]; exact h.index
  · rw [hleaves]; exact h.chain
  · rw [hleaves]; exact h.queue
  · rw [hleaves]; exact h.running
  · rw [hretired, hreturned, if_neg fun he => hnot' he.1]
    have hup := h.upload
    rw [if_neg fun he => hnot he.1] at hup
    show { t.upload with returned := min 65535 (t.upload.returned + 1) } = _
    have hmin : min 65535 (t.upload.returned + 1) = min 65535 (s.upload.returned + ((d.filter s.staysIn).length + 1)) := by
      rw [hup]
      show min 65535 (min 65535 (s.upload.returned + (d.filter s.staysIn).length) + 1) = _
      omega
    rw [hmin, hup]
  · rw [hlost]
    exact hentries m
  · have hframe := h.frame
    generalize t.roster.slots.map _ = slots
    generalize min 65535 _ = c
    rw [hframe]

/-- Any other record of the block departs. -/
theorem Accepted.retires (h : Accepted s d t) (hs : tableRising s.roster.slots = true) (ht : t.Live loose)
    (hr : t.recordAt n = some r)
    (hn : n ∉ d) (hsup : r.upload.isSuperseded = false) (hx : r.state ≠ .expected) :
    Accepted s (d ++ [n]) (acceptSlot t n) := by
  have hsame : s.recordAt n = some r := h.recordAt hn ▸ hr
  have hstays : s.staysIn n = false := by simp [State.staysIn, hsame, hsup]
  have hleaves := leavesIn_snoc_leaves s d hstays
  have hout : s.leavesIn d n = false := by simp [State.leavesIn, hn]
  have hin : s.leavesIn (d ++ [n]) n = true := by simp [leavesIn_snoc, hstays]
  have hkept : s.keptBy (d ++ [n]) = tableDel (s.keptBy d) n := by
    rw [State.keptBy, State.keptBy, tableDel, List.filter_filter]
    refine List.filter_congr fun e _ => ?_
    rw [hleaves, Bool.and_comm]
  have hother {k : Nat} (hk : k ≠ n) : s.leavesIn (d ++ [n]) k = s.leavesIn d k := by rw [leavesIn_snoc]; simp [hk]
  have hlost (m : Nat) : (s.lostBy (d ++ [n]) m).length = (s.lostBy d m).length + if r.segment = m then 1 else 0 := by
    refine (length_filter_slot hs hsame (p := fun e => s.leavesIn d e.1 && decide (e.2.segment = m)) (fun e _ he => ?_) ?_).trans ?_
    · rw [hother he]
    · rw [hout]
      rfl
    · show (s.lostBy d m).length + _ = _
      rw [hin]
      simp
  have hflagged (m : Nat) : ((s.lostBy (d ++ [n]) m).filter (fun e => decide (e.2.state = .flagged))).length
      = ((s.lostBy d m).filter (fun e => decide (e.2.state = .flagged))).length
        + if r.segment = m ∧ r.state = .flagged then 1 else 0 := by
    rw [State.lostBy, State.lostBy, List.filter_filter, List.filter_filter]
    refine (length_filter_slot hs hsame (p := fun e => decide (e.2.state = .flagged)
      && (s.leavesIn d e.1 && decide (e.2.segment = m))) (fun e _ he => ?_) ?_).trans ?_
    · rw [hother he]
    · rw [hout]
      simp
    · rw [hin]
      simp [and_comm]
  have hnot := h.not_emptied hr
  obtain ⟨hroute, hseg, hentries⟩ := h.open' hnot
  have hup := h.upload
  rw [if_neg fun he => hnot he.1] at hup
  obtain ⟨hcursor, hsent, hretired, hreturned, htimeouts, hstrays, hignored⟩ := ht.blocks.counts
  have hlive : ({ t with upload.retired := satInc Config.countTop t.upload.retired } : State).Live loose :=
    ht.setCounts rfl rfl ⟨hcursor, hsent, satInc_le _ _, hreturned, htimeouts, hstrays, hignored⟩
  obtain ⟨hframe, hsegs⟩ := hlive.segLose_read hr hx
  have hcounts := ht.counts_record hr
  have hstep : acceptSlot t n = retireSlot n { t with upload.retired := satInc Config.countTop t.upload.retired } := by
    unfold acceptSlot
    rw [hr]
    exact if_neg (by simp [hsup])
  have hslots : tableDel t.roster.slots n = (s.keptBy (d ++ [n])).map (fun e => (e.1, if e.1 ∈ d ++ [n] then e.2.release else e.2)) := by
    rw [h.slots, hkept, tableDel, tableDel, List.filter_map]
    refine List.map_congr_left fun e he => ?_
    have hen : e.1 ≠ n := by simpa using (List.mem_filter.1 he).2
    simp [hen]
  rw [hstep, retireSlot_eq (s := { t with upload.retired := satInc Config.countTop t.upload.retired }) hr]
  have hcond : (t.route.state = .closed ∧ tableDel t.roster.slots n = []) ↔ s.emptiedBy (d ++ [n]) := by
    rw [hroute, hslots, List.map_eq_nil_iff]
  have hnewretired : satInc Config.countTop t.upload.retired
      = min 65535 (s.upload.retired + ((d ++ [n]).filter (s.leavesIn (d ++ [n]))).length) := by
    have hd : d.filter (s.leavesIn (d ++ [n])) = d.filter (s.leavesIn d) := List.filter_congr fun k hk =>
      hother fun he => hn (he ▸ hk)
    rw [List.filter_append, List.length_append, hd, List.filter_cons, hin, satInc_eq_min, hup]
    show min 65535 (min 65535 (s.upload.retired + (d.filter (s.leavesIn d)).length) + 1)
      = min 65535 (s.upload.retired + ((d.filter (s.leavesIn d)).length + 1))
    omega
  have hnewreturned : ((d ++ [n]).filter s.staysIn).length = (d.filter s.staysIn).length := by
    rw [List.filter_append, List.filter_cons, hstays]
    simp
  generalize segLose r.segment r (dropSlot n { t with upload.retired := satInc Config.countTop t.upload.retired }) = u
    at hframe hsegs ⊢
  have hroster : u.roster = { slots := tableDel t.roster.slots n, index := t.roster.index.filter (fun w => w.2 != n) } := by
    rw [hframe]; rfl
  have hchain : u.chain = t.chain.filter (· != n) := by rw [hframe]; rfl
  have heval : u.eval = departEval n t.eval := by rw [hframe]; rfl
  have hupload : u.upload = { t.upload with retired := satInc Config.countTop t.upload.retired } := by rw [hframe]; rfl
  have huroute : u.route = t.route := by rw [hframe]; rfl
  have huseg : u.seg = { s.seg with table := u.seg.table } := by
    conv_lhs => rw [hframe]
    show { t.seg with table := u.seg.table } = _
    rw [hseg]
  have huframe : u = { t with roster := u.roster, eval := u.eval, chain := u.chain, seg := u.seg, upload := u.upload } := by
    rw [hframe]; rfl
  have hgone {α : Type} (key : α → Nat) (l : List α) :
      (l.filter (fun w => !s.leavesIn d (key w))).filter (fun w => key w != n)
        = l.filter (fun w => !s.leavesIn (d ++ [n]) (key w)) := by
    rw [List.filter_filter]
    refine List.filter_congr fun w _ => ?_
    rw [hleaves, Bool.and_comm]
  have hindex' : u.roster.index = s.roster.index.filter (fun w => !s.leavesIn (d ++ [n]) w.2) := by
    rw [hroster]
    show t.roster.index.filter _ = _
    rw [h.index]
    exact hgone (fun w : Nat × Nat => w.2) s.roster.index
  have hchain' : u.chain = s.chain.filter (fun k => !s.leavesIn (d ++ [n]) k) := by
    rw [hchain, h.chain]
    exact hgone (fun k : Nat => k) s.chain
  have hqueue' : u.eval.queue = s.eval.queue.filter (fun k => !s.leavesIn (d ++ [n]) k) := by
    rw [heval]
    show t.eval.queue.filter _ = _
    rw [h.queue]
    exact hgone (fun k : Nat => k) s.eval.queue
  have hrunning' : u.eval.running
      = s.eval.running.map (fun c => if s.leavesIn (d ++ [n]) c.slot = true then { c with departed := true } else c) := by
    rw [heval, departEval, h.running]
    dsimp only
    rw [Option.map_map]
    refine congrArg (fun f => s.eval.running.map f) (funext fun c => ?_)
    show (if (if s.leavesIn d c.slot = true then { c with departed := true } else c : Computation).slot = n then _ else _) = _
    by_cases hc : c.slot = n
    · have hkeeps : s.leavesIn d c.slot = false := hc ▸ hout
      have hgoes : s.leavesIn (d ++ [n]) c.slot = true := hc ▸ hin
      have hgoing : (if s.leavesIn d c.slot = true then { c with departed := true } else c : Computation) = c :=
        if_neg (by simp [hkeeps])
      rw [hgoing, if_pos hc, if_pos hgoes]
      simp [hkeeps]
    · rw [hother hc]
      by_cases hl : s.leavesIn d c.slot = true <;> simp [hl, hc]
  have hupload' : u.upload = { s.upload with
      retired := min 65535 (s.upload.retired + ((d ++ [n]).filter (s.leavesIn (d ++ [n]))).length)
      returned := min 65535 (s.upload.returned + ((d ++ [n]).filter s.staysIn).length) } := by
    rw [hupload, hnewretired, hnewreturned, hup]
  have hslots' : u.roster.slots = (s.keptBy (d ++ [n])).map (fun e => (e.1, if e.1 ∈ d ++ [n] then e.2.release else e.2)) := by
    rw [hroster, ← hslots]
  have hframe' : u = { s with
      roster := u.roster, route := u.route, eval := u.eval, chain := u.chain, seg := u.seg, upload := u.upload } := by
    have htframe := h.frame
    refine huframe.trans ?_
    rw [huroute]
    generalize u.roster = a, u.eval = b, u.chain = c, u.seg = e, u.upload = f
    generalize t.route = g at htframe ⊢
    rw [htframe]
  by_cases he : s.emptiedBy (d ++ [n])
  · rw [if_pos (hcond.2 he)]
    refine ⟨hslots', hindex', hchain', hqueue', hrunning', ?_, fun _ => ⟨rfl, rfl⟩, fun hno => absurd he hno, ?_⟩
    · show u.upload.passOver = _
      rw [hupload', Upload.passOver]
      by_cases hp : s.upload.state = .passing
      · rw [if_pos hp, if_pos ⟨he, hp⟩]
      · rw [if_neg hp, if_neg fun hx => hp hx.2]
    · conv_lhs => rw [hframe']
      rfl
  · rw [if_neg fun hx => he (hcond.1 hx)]
    refine ⟨hslots', hindex', hchain', hqueue', hrunning', ?_, fun hx => absurd hx he,
      fun _ => ⟨huroute.trans hroute, huseg, fun m => ?_⟩, hframe'⟩
    · rw [hupload', if_neg fun hx => he hx.1]
    · rw [hlost, hflagged]
      refine (hsegs m).trans ?_
      have hm : ({ t with upload.retired := satInc Config.countTop t.upload.retired } : State).segAt m
          = (s.segAt m).lessen (s.lostBy d m).length ((s.lostBy d m).filter (fun e => decide (e.2.state = .flagged))).length :=
        hentries m
      rw [hm]
      by_cases hmr : m = r.segment
      · have hpos : 1 ≤ ((s.segAt m).lessen (s.lostBy d m).length
            ((s.lostBy d m).filter (fun e => decide (e.2.state = .flagged))).length).members := by
          rw [← hentries m, hmr]
          exact hcounts.1
        rw [if_pos hmr, SegEntry.lessen_succ _ hpos, if_pos hmr.symm]
        congr 2
        simp [hmr]
      · rw [if_neg hmr, if_neg fun hx => hmr hx.symm, if_neg fun hx => hmr hx.1.symm]
        rfl

/-- Before the first slot nothing has been done. -/
theorem Accepted.nothing (hne : s.roster.slots ≠ []) (hretired : s.upload.retired ≤ 65535) (hreturned : s.upload.returned ≤ 65535) :
    Accepted s [] s := by
  have hstays (k : Nat) : s.leavesIn [] k = false := rfl
  have hkept : s.keptBy [] = s.roster.slots := List.filter_eq_self.2 fun _ _ => rfl
  have hlost (n : Nat) : s.lostBy [] n = [] := List.filter_eq_nil_iff.2 fun _ _ => Bool.false_ne_true
  have hnot : ¬ s.emptiedBy [] := fun he => hne (hkept ▸ he.2)
  refine ⟨?_, ?_, ?_, ?_, ?_, ?_, fun he => absurd he hnot, fun _ => ⟨rfl, rfl, fun n => ?_⟩, rfl⟩
  · rw [hkept]
    exact (List.map_id'' (fun _ => rfl) _).symm
  · exact (List.filter_eq_self.2 fun _ _ => rfl).symm
  · exact (List.filter_eq_self.2 fun _ _ => rfl).symm
  · exact (List.filter_eq_self.2 fun _ _ => rfl).symm
  · exact (congrFun Option.map_id s.eval.running).symm
  · rw [if_neg fun he => hnot he.1]
    show s.upload = { s.upload with retired := min 65535 s.upload.retired, returned := min 65535 s.upload.returned }
    rw [Nat.min_eq_right hretired, Nat.min_eq_right hreturned]
  · rw [hlost]
    exact (SegEntry.lessen_zero _).symm

/-- The slots of an accepted block are dealt with one after the other. -/
theorem Accepted.block (h : Accepted s d t) (hs : tableRising s.roster.slots = true) (ht : t.Live rest) (hnd : (d ++ rest).Nodup) :
    Accepted s (d ++ rest) (rest.foldl acceptSlot t) := by
  induction rest generalizing d t with
  | nil => rwa [List.append_nil]
  | cons n rest ih =>
    obtain ⟨r, hr, hcarried⟩ := ht.blocks.loose n List.mem_cons_self
    have hn : n ∉ d := fun hd => (List.nodup_append.1 hnd).2.2 n hd n List.mem_cons_self rfl
    obtain ⟨-, -, -, -, -, -, -, hread⟩ := (ht.records.each n r hr).holds
    have hnext : Accepted s (d ++ [n]) (acceptSlot t n) := by
      cases hsup : r.upload.isSuperseded with
      | true => exact h.returns hs ht.roster.rising hr hn hsup
      | false => exact h.retires hs ht hr hn hsup (hread hcarried)
    have hshift : d ++ n :: rest = d ++ [n] ++ rest := by simp
    rw [hshift] at hnd ⊢
    exact ih hnext ht.acceptSlot hnd

/-- Settles O54: the slots of the block, dealt with one after the other. -/
theorem acceptedBlockRetiresItsRecords : Obligations.AcceptedBlockRetiresItsRecords := by
  intro s block o h hl ho stays leaves kept lost returns
  have hlive : s.heard.Live [] := messageArrival_locked hl (fun t => t) ▸ (h.live_of_locked hl).messageArrival fun t ht _ => ht
  have hloose := hlive.loosenOne ho (u := { s.upload with table := s.upload.table.eraseP (fun x => x.block == block) }) rfl rfl
    hlive.blocks.counts
  rw [List.append_nil, eraseP_eq_erase ho] at hloose
  obtain ⟨-, -, hretired, hreturned, -, -, -⟩ := hlive.blocks.counts
  have hne : s.roster.slots ≠ [] := fun hnil => by
    have hslots := (hlive.blocks.each o (List.mem_of_find?_eq_some ho)).nonempty
    obtain ⟨n, hn⟩ := List.exists_mem_of_ne_nil _ hslots
    obtain ⟨r, hr, -⟩ := hloose.blocks.loose n hn
    have hr' : tableGet s.roster.slots n = some r := hr
    rw [hnil] at hr'
    cases hr'
  have hnodup := (List.nodup_append.1 hloose.blocks.nodup).1
  obtain ⟨hslots, hindex, hchain, hqueue, hrunning, hupload, hemptied, hopen, hframe⟩ :=
    (Accepted.nothing (s := { s.heard with upload := { s.upload with table := s.upload.table.erase o } })
      hne hretired hreturned).block h.roster.rising hloose hnodup
  refine ⟨_, ?_, hslots, hindex, hchain, hqueue, hrunning, hupload, hemptied, fun hno => ?_, hframe⟩
  · refine congrArg Host.Outcome.next ((if_pos rfl).trans ((messageArrival_locked hl _).trans ?_))
    have hdef : blockAck [block, 1#8] s.heard = removeEntry block (o.slots.foldl acceptSlot s.heard) := by
      unfold blockAck
      dsimp only
      rw [show byteAt [block, 1#8] 0 = block from rfl, show s.heard.upload.table.find? (fun o => o.block == block) = some o from ho]
      exact if_pos rfl
    rw [hdef, ← acceptSlots_removeEntry, ← eraseP_eq_erase ho]
    rfl
  · obtain ⟨hroute, hseg, hentries⟩ := hopen hno
    refine ⟨hroute, hseg, fun n => (hentries n).trans ?_⟩
    have hlost : (lost n).length ≠ 0 ↔ lost n ≠ [] := not_congr List.length_eq_zero_iff
    have hcond : ((lost n).length ≠ 0 ∧ (s.segAt n).state ≠ .closed ∧ (s.segAt n).members = (lost n).length)
        ↔ (lost n ≠ [] ∧ (s.segAt n).state ≠ .closed ∧ (s.segAt n).members = (lost n).length) := and_congr_left' hlost
    have hstate := if_congr hcond (rfl : SegState.vacant = .vacant) (rfl : (s.segAt n).state = (s.segAt n).state)
    rw [← hstate]
    rfl

end Sys2Proof.Machine

/-! PROOFS. The tenth and the loss of the lock: what the part counts, what comes back, and what a load of the dock leaves (R157,
R178, R180, R199, R200). -/

namespace Sys2Proof.Machine

variable {s t u : State}

/-! ## The loss of the lock (R157, R180) -/

/-- The Upload Engine after a loss of the lock. -/
def Upload.gone (u : Upload) : Upload := { u with state := .idle, cursor := some 0, table := [] }

/-- A part whose records are released and whose route is not a load of the dock. -/
theorem lockLoss_kept (h : s.Sound []) (hd : ¬ s.dockLoad) :
    lockLoss s = { s with roster.slots := s.slotsReleased, upload := s.upload.gone } := by
  unfold lockLoss discardDockLoad
  rw [abandoned_eq h]
  exact if_neg hd

/-- A load of the dock is thrown away with the lock (R38). -/
theorem lockLoss_discarded (h : s.Sound []) (hd : s.dockLoad) :
    lockLoss s = discardRoute { s with roster.slots := s.slotsReleased, upload := s.upload.gone } := by
  unfold lockLoss discardDockLoad
  rw [abandoned_eq h]
  exact if_pos hd

theorem lockLoss_bare (h : s.Sound []) (hd : s.dockLoad) : (lockLoss s).bare := by
  rw [lockLoss_discarded h hd, discardRoute_eq]
  exact ⟨rfl, rfl, rfl, rfl, rfl⟩

theorem lockLoss_upload (h : s.Sound []) : (lockLoss s).upload = s.upload.gone := by
  by_cases hd : s.dockLoad
  · rw [lockLoss_discarded h hd, discardRoute_eq]
    rfl
  · rw [lockLoss_kept h hd]

/-- Whatever becomes of the link and of DOCK_PRESENT, the lock is lost. -/
theorem lockLost_raise (h : s.Sound []) (present : Bool) (link : Link) :
    LockLost s (raise attDockChange { lockLoss s with dockPresent := present, link := link }) := by
  have hbare := fun hd => lockLoss_bare h hd
  have hkept := fun hd => lockLoss_kept h hd
  have hframe := lockLoss_frame h.roster.rising
  generalize lockLoss s = t at hbare hkept hframe
  refine ⟨hbare, fun hd => ?_, ?_⟩
  · rw [hkept hd]
    exact ⟨rfl, rfl, rfl, rfl, rfl⟩
  · rw [hframe]
    exact ⟨rfl, rfl, rfl, rfl, rfl, rfl, rfl⟩

theorem loseLock_eq (h : s.Sound []) :
    loseLock s = raise attDockChange { lockLoss s with
      dockPresent := s.dockPresent
      link := { s.link with state := .acquiring, syncRun := 0, liveness := 2, receiver := .hunt, txQueue := [], sending := none } } := by
  have hframe := lockLoss_frame h.roster.rising
  unfold loseLock
  generalize lockLoss s = t at hframe
  rw [hframe]
  rfl

/-- The parts of the state that a loss of the lock leaves alone. -/
theorem lockLoss_lines (h : s.Sound []) : (lockLoss s).lines = s.lines ∧ (lockLoss s).draws = s.draws := by
  have hframe := lockLoss_frame h.roster.rising
  generalize lockLoss s = t at hframe
  rw [hframe]
  exact ⟨rfl, rfl⟩

/-- The lock is lost (R157): the part's state, its link, its lines, its draws and its Upload Engine. -/
theorem loseLock_lost (h : s.Sound []) :
    LockLost s (loseLock s) ∧ (loseLock s).dockPresent = s.dockPresent
    ∧ (loseLock s).link = { s.link with
        state := .acquiring, syncRun := 0, liveness := 2, receiver := .hunt, txQueue := [], sending := none }
    ∧ (loseLock s).lines = s.lines ∧ (loseLock s).draws = s.draws ∧ (loseLock s).upload = s.upload.gone := by
  obtain ⟨hlines, hdraws⟩ := lockLoss_lines h
  rw [loseLock_eq h]
  exact ⟨lockLost_raise h _ _, rfl, rfl, hlines, hdraws, lockLoss_upload h⟩

/-- Settles O18: the loss of the lock by LIVENESS_EXPIRY and by DOCK_PRESENT_FALL. -/
theorem lockIsLostByExpiryAndFall : Obligations.LockIsLostByExpiryAndFall := by
  refine ⟨fun s => ⟨fun hnot => ?_, fun h hl hone => ?_⟩, fun s => ?_⟩
  · exact congrArg Host.Outcome.next (if_neg fun hdue => hnot (livenessDue_iff.1 hdue))
  · obtain ⟨hlost, hpresent, hlink, hlines, hdraws, hupload⟩ := loseLock_lost h.sound
    exact ⟨_, congrArg Host.Outcome.next (if_pos (livenessDue_iff.2 ⟨hl, hone⟩)), hlost, hpresent, hlink, hlines, hdraws, hupload⟩
  · intro link
    refine ⟨fun hl => execDockPresentFall_unlocked hl, fun h hl => ?_⟩
    obtain ⟨hlines, hdraws⟩ := lockLoss_lines h.sound
    have hlink : (lockLoss s).link = s.link := by rw [lockLoss_frame h.sound.roster.rising]
    refine ⟨_, execDockPresentFall_locked h.sound.roster.rising hl, lockLost_raise h.sound _ _, rfl, ?_, hlines, hdraws,
      lockLoss_upload h.sound⟩
    exact congrArg Link.detach hlink

/-! ## The tenth (R157, R178, R199, R200) -/

/-- The liveness count of a link that keeps its lock. -/
theorem tenthLiveness_eq (hnot : ¬ ((s.link.state = .locked ∨ s.link.state = .checking) ∧ 1 ≤ s.link.liveness)) :
    tenthLiveness s = { s with link.liveness :=
      if s.link.state = .locked ∨ s.link.state = .checking then s.link.liveness + 1 else s.link.liveness } := by
  have hcount : s.link.counting = true ↔ (s.link.state = .locked ∨ s.link.state = .checking) := by simp [Link.counting]
  unfold tenthLiveness
  rw [if_neg (mt livenessDue_iff.1 hnot)]
  by_cases hl : s.link.state = .locked ∨ s.link.state = .checking
  · rw [if_pos (hcount.2 hl), if_pos hl]
  · rw [if_neg (mt hcount.1 hl), if_neg hl]

/-- While no lock is lost, the blocks come after the liveness count. -/
theorem tenthLinkAndBlocks_kept (h : s.livenessDue = false) : tenthLinkAndBlocks s = tenthBlocks (tenthLiveness s) := by
  unfold tenthLinkAndBlocks
  rw [h]
  rfl

theorem tenthLeft_eq (table : List Outstanding) :
    tenthLeft table = (table.filter (fun o => decide (2 ≤ o.tenths))).map (fun o => { o with tenths := o.tenths - 1 }) := by
  unfold tenthLeft
  refine congrArg _ (List.filter_congr fun o _ => ?_)
  unfold Outstanding.due
  rw [← decide_not]
  exact decide_eq_decide.2 (by omega)

/-- Settles O16: the count of the link, the blocks, the pulse and the IND release of a tenth. -/
theorem tenthCountsAndExpiresBlocks : Obligations.TenthCountsAndExpiresBlocks := by
  intro s
  refine ⟨fun hp => congrArg Host.Outcome.next (if_pos hp), fun hp => congrArg Host.Outcome.next (if_neg (Nat.not_le.2 hp)),
    fun h hnot => ?_⟩
  intro counted due freed left
  obtain ⟨-, -, -, hreturned, htimeouts, -, -⟩ := h.sound.blocks.counts
  have hdue : s.livenessDue = false := by
    cases hd : s.livenessDue with
    | false => rfl
    | true => exact absurd (livenessDue_iff.1 hd) hnot
  have hblocks := tenthBlocks_eq (s := { s with link.liveness := counted }) h.sound.roster.rising hreturned htimeouts
  show execTenth s = _
  unfold execTenth tenthPulse
  rw [tenthLinkAndBlocks_kept hdue, tenthLiveness_eq hnot, hblocks, tenthLeft_eq]
  rfl

/-- A tenth finds no block in an empty Outstanding Table. -/
theorem tenthBlocks_empty (h : s.upload.table = []) : tenthBlocks s = s := by
  unfold tenthBlocks
  rw [h]
  calc ({ s with upload.table := [] } : State) = { s with upload.table := s.upload.table } := by rw [h]
    _ = s := rfl

/-- A part that differs in its draws, in the marks of its records and in its Upload Engine loses the lock as it would. -/
theorem LockLost.of_freed {slots : List (Nat × Record)} {up : Upload} {draws : Nat}
    (hslots : slots.map (fun e => (e.1, e.2.release)) = s.slotsReleased)
    (h : LockLost { s with roster.slots := slots, upload := up, draws := draws } t) : LockLost s t := by
  obtain ⟨hbare, hkept, hrest⟩ := h
  refine ⟨hbare, fun hd => ?_, hrest⟩
  obtain ⟨hroute, hseg, hchain, heval, hroster⟩ := hkept hd
  refine ⟨hroute, hseg, hchain, heval, hroster.trans ?_⟩
  rw [← hslots]
  rfl

/-- A tenth that loses the lock, from the part as it then stands. -/
theorem execTenth_lost {slots : List (Nat × Record)} {up : Upload} {draws : Nat}
    (h : ({ s with roster.slots := slots, upload := up, draws := draws } : State).Sound [])
    (hslots : slots.map (fun e => (e.1, e.2.release)) = s.slotsReleased)
    (heq : tenthLinkAndBlocks s = loseLock { s with roster.slots := slots, upload := up, draws := draws }) :
    ∃ t, exec .tenth s = .next t ∧ LockLost s t ∧ t.dockPresent = s.dockPresent
      ∧ t.link = { s.link with
          state := .acquiring, syncRun := 0, liveness := 2, receiver := .hunt, txQueue := [], sending := none }
      ∧ t.lines = { pulse := s.lines.pulse - 1, indWait := false } ∧ t.upload = up.gone := by
  obtain ⟨hlost, hpresent, hlink, hlines, -, hupload⟩ := loseLock_lost h
  have hexec : exec .tenth s = .next { tenthLinkAndBlocks s with
      lines := { pulse := (tenthLinkAndBlocks s).lines.pulse - 1, indWait := false } } := rfl
  rw [heq] at hexec
  refine ⟨_, hexec, LockLost.of_freed (slots := slots) (up := up) (draws := draws) hslots hlost, hpresent, hlink, ?_, hupload⟩
  rw [hlines]

/-- Settles O17: the lock is lost before or after the blocks. -/
theorem tenthLosesTheLock : Obligations.TenthLosesTheLock := by
  intro s h hl hone due gone
  have hlive : s.Live [] := h.live (h.listens_of_link (by rcases hl with hl | hl <;> rw [hl] <;> decide))
  have hdrawn : ({ s with draws := s.draws + 1 } : State).Live [] := hlive.draw _
  have hdue : s.livenessDue = true := livenessDue_iff.2 ⟨hl, hone⟩
  obtain ⟨-, -, -, hreturned, htimeouts, -, -⟩ := hlive.blocks.counts
  have hlockFirst (v : State) (hv : v.Sound []) (hd : v.livenessDue = true) : tenthBlocks (tenthLiveness v) = loseLock v := by
    obtain ⟨-, -, -, -, -, hupload⟩ := loseLock_lost hv
    rw [show tenthLiveness v = loseLock v from if_pos hd]
    exact tenthBlocks_empty (congrArg Upload.table hupload)
  by_cases hblocks : s.upload.table.any Outstanding.due = true
  · have hdraw : tenthLinkAndBlocks s = if Config.blocksFirst s.draws then tenthLiveness (tenthBlocks { s with draws := s.draws + 1 })
        else tenthBlocks (tenthLiveness { s with draws := s.draws + 1 }) := if_pos (by rw [hdue, hblocks]; rfl)
    by_cases hfirst : Config.blocksFirst s.draws = true
    · rw [if_pos hfirst] at hdraw
      have hexpired := tenthBlocks_eq (s := { s with draws := s.draws + 1 }) hlive.roster.rising hreturned htimeouts
      have hsound := hdrawn.tenthBlocks.toSound
      have hslots : (s.released (tenthFreed s.upload.table)).roster.slots.map (fun e => (e.1, e.2.release)) = s.slotsReleased := by
        show (s.roster.slots.map _).map _ = _
        rw [List.map_map]
        refine List.map_congr_left fun e _ => ?_
        show (e.1, (if e.1 ∈ tenthFreed s.upload.table then e.2.release else e.2).release) = _
        split <;> rfl
      rw [hexpired] at hdraw hsound
      obtain ⟨t, hexec, hlost, hpresent, hlink, hlines, hupload⟩ :=
        execTenth_lost (s := s) (slots := (s.released (tenthFreed s.upload.table)).roster.slots) hsound hslots (hdraw.trans (if_pos hdue))
      exact ⟨t, hexec, hlost, hpresent, hlink, hlines, .inr hupload⟩
    · rw [if_neg hfirst, hlockFirst _ hdrawn.toSound hdue] at hdraw
      obtain ⟨t, hexec, hlost, hpresent, hlink, hlines, hupload⟩ := execTenth_lost (slots := s.roster.slots) hdrawn.toSound rfl hdraw
      exact ⟨t, hexec, hlost, hpresent, hlink, hlines, .inl hupload⟩
  · have hnone : tenthLinkAndBlocks s = tenthBlocks (tenthLiveness s) := if_neg (by simp [hblocks])
    rw [hlockFirst s hlive.toSound hdue] at hnone
    obtain ⟨t, hexec, hlost, hpresent, hlink, hlines, hupload⟩ :=
      execTenth_lost (slots := s.roster.slots) (up := s.upload) (draws := s.draws) hlive.toSound rfl hnone
    exact ⟨t, hexec, hlost, hpresent, hlink, hlines, .inl hupload⟩

end Sys2Proof.Machine

/-! PROOFS. The warm reset by RESET_N and by RESET, and the end of a hold (R195, R205, R206). -/

namespace Sys2Proof.Machine

variable {s t : State}

/-- What a warm reset makes of the records and of what holds slots. -/
structure RecordsReset (s t : State) : Prop where
  bare    : s.dockLoad → t.bare
  kept    : ¬ s.dockLoad → t = { s with
    roster.slots := s.roster.slots.map (fun e =>
      (e.1, { e.2 with upload := .idle, eval := if e.2.eval = .running then .queued else e.2.eval }))
    eval := { running := none, queue := requeued s.roster.slots }
    upload := s.upload.gone }
  running : t.eval.running = none
  upload  : t.upload = s.upload.gone

theorem requeued_released (slots : List (Nat × Record)) : requeued (slots.map (fun e => (e.1, e.2.release))) = requeued slots := by
  unfold requeued
  rw [List.filter_map, List.map_map]
  rfl

theorem State.Live.recordsReset (h : s.Live []) : RecordsReset s (resetRecords s) := by
  obtain ⟨hlive, -, -, -⟩ := h.lockLoss
  have hreset : resetRecords s = _ := resetEval_eq hlive.toSound
  refine ⟨fun hd => ?_, fun hd => ?_, by rw [hreset], by rw [hreset]; exact lockLoss_upload h.toSound⟩
  · obtain ⟨hroster, hroute, hseg, hchain, -⟩ := lockLoss_bare h.toSound hd
    rw [hreset]
    refine ⟨?_, hroute, hseg, hchain, ?_⟩
    · rw [hroster]
      rfl
    · rw [hroster]
      rfl
  · rw [hreset, lockLoss_kept h.toSound hd]
    have hslots : s.slotsReleased.map (fun e => (e.1, e.2.requeue)) = s.roster.slots.map (fun e =>
        (e.1, { e.2 with upload := .idle, eval := if e.2.eval = .running then .queued else e.2.eval })) := by
      rw [State.slotsReleased, List.map_map]
      rfl
    have hqueue : requeued s.slotsReleased = requeued s.roster.slots := requeued_released s.roster.slots
    dsimp only
    rw [hslots, hqueue]

/-- On a started part, held or not, a warm reset treats the records alike. -/
theorem State.Laws.recordsReset (h : s.Laws) (hp : s.power = .running) : RecordsReset s (resetRecords s) := by
  cases hr : s.resetLow with
  | false => exact (h.live ⟨hp, hr⟩).recordsReset
  | true =>
    have hd : s.link.state = .detached := h.link.1.2 fun hx => by cases hr.symm.trans ((listens_iff s).2 hx.1).2
    have hfree : ({ s with resetLow := false, dockPresent := false } : State).Live [] :=
      { h.sound with
        listens := ⟨hp, rfl⟩
        link := ⟨⟨fun _ hx => (by cases hx.2), fun _ => hd⟩, h.link.2⟩ }
    have heq : resetRecords s
        = { resetRecords { s with resetLow := false, dockPresent := false } with
            resetLow := s.resetLow, dockPresent := s.dockPresent } :=
      resetRecords_pins (s := { s with resetLow := false, dockPresent := false }) h.sound.roster.rising s.resetLow s.dockPresent
    obtain ⟨hbare, hkept, hrunning, hupload⟩ := hfree.recordsReset
    rw [heq]
    exact ⟨hbare, fun hd => by rw [hkept hd], hrunning, hupload⟩

/-- A warm reset, whatever becomes of the level of RESET_N, of the link state, of the IND release and of the link's mating. -/
theorem warmReset_done (h : s.Laws) (hp : s.power = .running) (cause : ResetCause) (low wait : Bool) (state : LinkState) :
    WarmReset cause s { warmReset cause s with resetLow := low, link.state := state, lines.indWait := wait } := by
  obtain ⟨hbare, hkept, hrunning, hupload⟩ := h.recordsReset hp
  have hframe := resetRecords_frame h.sound.roster.rising
  have hdef : warmReset cause s = { resetRecords s with
      channels := Quad.all {}
      rotation := 3
      seg.staged := (resetRecords s).seg.applied
      link := { (resetRecords s).link.detach with syncRun := 0, liveness := 0 }
      upload := { (resetRecords s).upload with
        sent := 0, retired := 0, returned := 0, timeouts := 0, strays := 0, ignored := 0 }
      port.buffer := none
      port.causes := 0#8
      port.cursor := none
      port.resetCause := cause
      lines.pulse := 0 } := rfl
  rw [hdef]
  generalize resetRecords s = t at hbare hkept hrunning hupload hframe
  refine ⟨fun hd => ?_, fun hd => ?_, hrunning, rfl, rfl, rfl, rfl, rfl, rfl, rfl, rfl, rfl, rfl, ?_, rfl, rfl, rfl, rfl, rfl, ?_⟩
  · obtain ⟨hroster, hroute, hseg, hchain, hqueue⟩ := hbare hd
    refine ⟨hroster, hroute, ?_, hchain, hqueue⟩
    show ({ t.seg with staged := t.seg.applied } : Segments) = {}
    rw [hseg]
  · rw [hkept hd]
    exact ⟨rfl, rfl, rfl, rfl, rfl, rfl⟩
  · dsimp only
    rw [hupload]
    rfl
  · rw [hframe]
    exact ⟨rfl, rfl, rfl, rfl, rfl⟩

/-- What a warm reset leaves of the pins, of the IND release and of the record of MISO. -/
theorem warmReset_rest (h : s.Laws) (cause : ResetCause) :
    (warmReset cause s).lines.indWait = s.lines.indWait ∧ (warmReset cause s).port.miso = s.port.miso
    ∧ (warmReset cause s).resetLow = s.resetLow ∧ (warmReset cause s).dockPresent = s.dockPresent
    ∧ (warmReset cause s).link.state = .detached := by
  have hframe := resetRecords_frame h.sound.roster.rising
  show (resetRecords s).lines.indWait = _ ∧ (resetRecords s).port.miso = _ ∧ (resetRecords s).resetLow = _
    ∧ (resetRecords s).dockPresent = _ ∧ LinkState.detached = _
  rw [hframe]
  exact ⟨rfl, rfl, rfl, rfl, rfl⟩

/-- Settles O14: the warm reset of RESET_N_FALL, and the end of its hold. -/
theorem resetLineWarmResets : Obligations.ResetLineWarmResets := by
  refine ⟨fun s => ⟨fun hp => if_neg hp, fun h hp => ?_⟩, fun s => ⟨fun hp hlow => ?_, fun hoff => ?_⟩⟩
  · obtain ⟨hwait, hmiso, -, -, -⟩ := warmReset_rest h .resetLine
    exact ⟨_, if_pos hp, warmReset_done h hp .resetLine true _ .detached, rfl, rfl, hwait, hmiso⟩
  · refine congrArg Host.Outcome.next ((if_pos (by rw [hp, hlow]; rfl)).trans ?_)
    unfold acquireIfPresent
    dsimp only
    split <;> rfl
  · refine congrArg Host.Outcome.next (if_neg fun hheld => ?_)
    obtain ⟨hp, hr⟩ := Bool.and_eq_true_iff.1 hheld
    rcases hoff with hoff | hoff
    · exact hoff (of_decide_eq_true hp)
    · cases hr.symm.trans hoff

/-- Settles O15: the warm reset of RESET. -/
theorem resetCommandIsAWarmReset : Obligations.ResetCommandIsAWarmReset := by
  intro s h hl
  have hlive : (carryFill (txCarrying []) s).Live [] := (h.live hl).carryFill _
  obtain ⟨-, hmiso, hlow, hpresent, hstate⟩ := warmReset_rest hlive.laws .resetCommand
  have hexec : exec (.reset (txCarrying [])) s = .next (commandReset (carryFill (txCarrying []) s)) := by
    refine (if_pos ?_).trans (if_pos rfl)
    rw [State.takes, (listens_iff s).1 hl]
    rfl
  have hdone := fun state =>
    warmReset_done hlive.laws hl.1 .resetCommand (warmReset .resetCommand (carryFill (txCarrying []) s)).resetLow true state
  cases hp : s.dockPresent with
  | true =>
    exact ⟨_, hexec.trans (congrArg _ (if_pos (hpresent.trans hp))), hdone .acquiring, hlow.trans hl.2, rfl, rfl, hmiso⟩
  | false =>
    have hoff : ¬ (warmReset .resetCommand (carryFill (txCarrying []) s)).dockPresent = true := by
      rw [hpresent.trans hp]
      exact Bool.false_ne_true
    exact ⟨_, hexec.trans (congrArg _ (if_neg hoff)), hdone .detached, hlow.trans hl.2, rfl, rfl, hmiso⟩

end Sys2Proof.Machine

/-! PROOFS. The deadlines of the segments: the expiries of a route second in closed form, and the expiry of one segment alone
(R41, R140). -/

namespace Sys2Proof.Machine

variable {s t : State} {clock n : Nat} {l : List Nat}

/-- The segment is TRAILING, and its deadline is reached by the clock. -/
def State.expiresBy (s : State) (clock n : Nat) : Bool :=
  decide ((s.segAt n).state = .trailing) && (s.segAt n).deadline.any (fun d => decide (d ≤ clock))

theorem expiresBy_iff : s.expiresBy clock n = true ↔ (s.segAt n).state = .trailing ∧ ∃ d, (s.segAt n).deadline = some d ∧ d ≤ clock := by
  simp [State.expiresBy, any_iff]

theorem expireSeg_due (h : s.expiresBy clock n = true) : expireSeg clock n s = missSeg n s := by
  obtain ⟨hst, d, hd, hle⟩ := expiresBy_iff.1 h
  rcases expireSeg_cases clock n s with ⟨-, -, -, -, he⟩ | ⟨hnot, -⟩
  · exact he
  · exact absurd hle (Nat.not_le.2 (hnot d hst hd))

theorem expireSeg_notDue (h : s.expiresBy clock n = false) : expireSeg clock n s = s := by
  rcases expireSeg_cases clock n s with ⟨d, hst, hd, hle, -⟩ | ⟨-, he⟩
  · cases h.symm.trans (expiresBy_iff.2 ⟨hst, d, hd, hle⟩)
  · exact he

theorem segAt_missSeg (n m : Nat) (s : State) :
    (missSeg n s).segAt m = if m = n then { s.segAt n with state := .missed, deadline := none } else s.segAt m :=
  segAt_setSeg n m { s.segAt n with state := .missed, deadline := none } s

/-- What stands when the segments of `l` have been looked at. -/
structure Expired (s : State) (clock : Nat) (l : List Nat) (t : State) : Prop where
  frame   : t = { s with
    seg.table := t.seg.table
    seg.revisit := s.seg.revisit ++ l.filter (s.expiresBy clock)
    port.causes := if l.filter (s.expiresBy clock) = [] then s.port.causes else s.port.causes ||| attSegmentMissed }
  entries : ∀ n, t.segAt n = if n ∈ l ∧ s.expiresBy clock n = true then { s.segAt n with state := .missed, deadline := none }
    else s.segAt n

theorem Expired.nothing : Expired s clock [] s :=
  ⟨by simp, fun n => by simp⟩

theorem Expired.snoc (h : Expired s clock l t) (hn : n ∉ l) : Expired s clock (l ++ [n]) (expireSeg clock n t) := by
  have hentry : t.segAt n = s.segAt n := (h.entries n).trans (if_neg fun hx => hn hx.1)
  have hsame : t.expiresBy clock n = s.expiresBy clock n := by rw [State.expiresBy, hentry, State.expiresBy]
  cases hdue : s.expiresBy clock n with
  | false =>
    have hfilter : (l ++ [n]).filter (s.expiresBy clock) = l.filter (s.expiresBy clock) := by simp [hdue]
    rw [expireSeg_notDue (hsame.trans hdue)]
    refine ⟨hfilter ▸ h.frame, fun m => (h.entries m).trans (if_congr ?_ rfl rfl)⟩
    rw [List.mem_append, List.mem_singleton]
    refine ⟨fun hx => ⟨.inl hx.1, hx.2⟩, fun hx => ⟨hx.1.resolve_right fun hm => ?_, hx.2⟩⟩
    cases hdue.symm.trans (hm ▸ hx.2)
  | true =>
    have hfilter : (l ++ [n]).filter (s.expiresBy clock) = l.filter (s.expiresBy clock) ++ [n] := by simp [hdue]
    have hcauses : (if l.filter (s.expiresBy clock) = [] then s.port.causes else s.port.causes ||| attSegmentMissed)
        ||| attSegmentMissed = s.port.causes ||| attSegmentMissed := by
      split
      · rfl
      · rw [BitVec.or_assoc, BitVec.or_self]
    rw [expireSeg_due (hsame.trans hdue)]
    refine ⟨?_, fun m => (segAt_missSeg n m t).trans ?_⟩
    · have hframe := h.frame
      rw [missSeg_eq, hfilter, if_neg (by simp), ← hcauses, ← List.append_assoc]
      dsimp only
      generalize putSeg t.seg.table n _ = table
      rw [hframe]
    · by_cases hm : m = n
      · rw [if_pos hm, hentry, hm, if_pos ⟨by simp, hdue⟩]
      · rw [if_neg hm, h.entries m]
        simp [hm]

theorem expireSegs_expired (hd : (l : List Nat).Nodup) : Expired s clock l (l.foldl (fun s n => expireSeg clock n s) s) := by
  induction l using List.reverseRecOn with
  | nil => exact .nothing
  | append_singleton l n ih =>
    obtain ⟨hl, -, hout⟩ := List.nodup_append.1 hd
    rw [List.foldl_append]
    exact (ih hl).snoc fun hn => hout n hn n List.mem_cons_self rfl

/-- The TRAILING segments whose deadline is reached, in ascending order: no other segment has a deadline. -/
theorem State.Live.due_eq (h : s.Live []) (clock : Nat) :
    (s.seg.table.map (fun e => e.1)).filter (s.expiresBy clock)
      = (List.range 1024).filter (fun n => (s.segAt n).deadline.any (fun d => decide (d ≤ clock))) := by
  have hrising := (tableRising_iff _).1 h.segments.canonical.1
  have hleft : ((s.seg.table.map (fun e => e.1)).filter (s.expiresBy clock)).Pairwise (· < ·) :=
    (List.pairwise_map.2 hrising).filter _
  have hright : ((List.range 1024).filter (fun n => (s.segAt n).deadline.any (fun d => decide (d ≤ clock)))).Pairwise (· < ·) :=
    List.pairwise_lt_range.filter _
  refine hleft.eq_of_mem_iff hright fun n => ?_
  rw [List.mem_filter, List.mem_filter, List.mem_range, expiresBy_iff, any_iff]
  constructor
  · rintro ⟨-, hst, d, hd, hle⟩
    exact ⟨h.segments.lt_of_state (by rw [hst]; decide), d, hd, decide_eq_true hle⟩
  · rintro ⟨hn, d, hd, hle⟩
    have hst : (s.segAt n).state = .trailing := (h.segments.each n hn).deadline.1 (by
      show (s.segAt n).deadline.isSome = true
      rw [hd]
      rfl)
    refine ⟨?_, hst, d, hd, of_decide_eq_true hle⟩
    by_contra hout
    have hnone : tableGet s.seg.table n = none := tableGet_eq_none.2 fun e he hn => hout (List.mem_map.2 ⟨e, he, hn⟩)
    rw [State.segAt, hnone] at hst
    cases hst

theorem nextClock_eq (s : State) : s.nextClock = min 16777215 (s.route.clock + 1) := satInc_eq_min _ _

/-- Settles O19: the expiries of a route second, and of one segment. -/
theorem deadlinesExpire : Obligations.DeadlinesExpire := by
  refine ⟨fun s => ⟨fun hoff => if_neg (mt clockRuns_iff.1 hoff), fun h hl ha => ?_⟩,
    fun s n => ⟨fun hoff => congrArg Host.Outcome.next (if_neg (mt clockRuns_iff.1 hoff)), fun d hl ha hst hd hle => ?_, fun hnot => ?_⟩⟩
  · intro clock due
    have hlive := h.live hl
    have hnodup : (s.seg.table.map (fun e => e.1)).Nodup :=
      (List.pairwise_map.2 ((tableRising_iff _).1 hlive.segments.canonical.1)).imp Nat.ne_of_lt
    obtain ⟨hframe, hentries⟩ := expireSegs_expired (s := { s with route.clock := clock }) (clock := clock) hnodup
    have hdue : (s.seg.table.map (fun e => e.1)).filter (s.expiresBy clock) = due := hlive.due_eq clock
    have hexec : exec .routeSecond s = .next ((s.seg.table.map (fun e => e.1)).foldl (fun s n => expireSeg clock n s)
        { s with route.clock := clock }) := (if_pos (clockRuns_iff.2 ⟨hl, ha⟩)).trans (by rw [nextClock_eq])
    refine ⟨_, hexec, ?_, fun n => (hentries n).trans (if_congr ?_ rfl rfl)⟩
    · rw [← hdue]
      exact hframe
    · rw [← hdue, List.mem_filter]
      exact Iff.rfl
  · have hdue : s.expiresBy s.nextClock n = true := expiresBy_iff.2 ⟨hst, d, hd, nextClock_eq s ▸ hle⟩
    exact congrArg Host.Outcome.next ((if_pos (clockRuns_iff.2 ⟨hl, ha⟩)).trans (expireSeg_due hdue))
  · have hdue : s.expiresBy s.nextClock n = false := Bool.eq_false_iff.2 fun hdue => by
      obtain ⟨hst, d, hd, hle⟩ := expiresBy_iff.1 hdue
      rcases hnot with hnot | hnot
      · exact hnot hst
      · exact absurd hle (Nat.not_le.2 (nextClock_eq s ▸ hnot d hd))
    refine congrArg Host.Outcome.next ?_
    rw [expireSeg_notDue hdue, ite_self]

end Sys2Proof.Machine
